-- ==== Sys2Proof/Word.lean ====
section
/-! DEFINITION. The words of the block (spec/00_scope.md R10): bytes, transport words, and the two
IEEE-754 formats. A float is held as its bits: the codec copies it bit for bit (R125) and only
Machine/Float.lean computes with it. -/

namespace Sys2Proof

/-- A byte, `u8` (R81). -/
abbrev Byte := BitVec 8

/-- A 16-bit word of the transport port, `u16` (R26). -/
abbrev Word16 := BitVec 16

/-- The 32 bits of an `i32` register, two's complement (R10). -/
abbrev I32 := BitVec 32

/-- A timestamp, `u64` (R31). -/
abbrev U64 := BitVec 64

/-- The bits of an IEEE-754 binary32 value (R10). -/
abbrev F32 := BitVec 32

/-- The bits of an IEEE-754 binary64 value (R10). -/
abbrev F64 := BitVec 64

/-- The list index an `i32` index field stands for: none for a negative one, the sentinel −1 among
them (R28, R91, R433). -/
def indexOf (v : I32) : Option Nat := if v.msb then none else some v.toNat

end Sys2Proof
end

