-- ==== Sys2Proof/Config.lean ====
section
/-! DEFINITION. What a configuration fixes (spec/00_scope.md R6, R7) and what the spec leaves open.
`Cfg` is the plain-data part of the record `cfg`; the fields of `cfg` that are functions of an
unbounded domain (payload layouts, trigonometric tables, the expected weight, the RX byte
extraction) are OPAQUE constants here, taken through the selector `TableSet`, so that two loaded
configurations may carry different functions and nothing can be proved of any of them beyond what
Machine/Tables.lean imposes from the spec. -/

namespace Sys2Proof

/-! ## Closed enumerations -/

/-- The five subnets, numbered 1 to 5 on the wire and at the ports (R6, R89). -/
inductive Subnet where
  | s1 | s2 | s3 | s4 | s5
  deriving DecidableEq, Repr

/-- One value for each subnet. -/
structure PerSubnet (α : Type) where
  s1 : α
  s2 : α
  s3 : α
  s4 : α
  s5 : α
  deriving DecidableEq, Repr

/-- The nine force components, in the source's order, which is their number and their order of
update and summation (R42, R261). -/
inductive Comp where
  | static | elevation | azimuth | velocity | acceleration | thermal | balance | activeOptic | offset
  deriving DecidableEq, Repr

/-- One value for each force component. -/
structure PerComp (α : Type) where
  static : α
  elevation : α
  azimuth : α
  velocity : α
  acceleration : α
  thermal : α
  balance : α
  activeOptic : α
  offset : α
  deriving DecidableEq, Repr

/-- The six hardpoints `h ∈ 0..5` (R6). -/
inductive Hp where
  | h0 | h1 | h2 | h3 | h4 | h5
  deriving DecidableEq, Repr

/-- One value for each hardpoint. -/
structure PerHp (α : Type) where
  h0 : α
  h1 : α
  h2 : α
  h3 : α
  h4 : α
  h5 : α
  deriving DecidableEq, Repr

/-- One value for each kind of sliding window (R52). -/
structure PerWindow (α : Type) where
  ilc : α
  fe : α
  hpf : α
  hpa : α
  deriving DecidableEq, Repr

/-- A triple of arrays, one for each axis (R43). -/
structure Tri (α : Type) where
  x : List α
  y : List α
  z : List α
  deriving DecidableEq, Repr

/-- A value for each of the three axes: a position, a moment limit (R7). -/
structure Vec3 where
  x : F32
  y : F32
  z : F32
  deriving DecidableEq, Repr

/-- A closed interval of forces: a tolerance band (R7). -/
structure Band where
  lo : F32
  hi : F32
  deriving DecidableEq, Repr

/-- `Type` of an ILC map entry (R28). -/
inductive ActType where
  | unknown | forceActuator | hardpoint | hardpointMonitor
  deriving DecidableEq, Repr

/-- The fixed catalogue of twenty ILC function codes (R126). -/
inductive FnCode where
  | reportServerID | reportServerStatus | changeMode | stepMotor | electromechanicalForceAndStatus
  | setBoostValveDCAGains | readBoostValveDCAGains | forceDemand | pneumaticForceStatus
  | setADCScanRate | setADCOffsetSensitivity | eraseApplication | writeApplication
  | verifyApplication | resetApplication | readCalibration | readDCAPressure | reportDCAID
  | reportDCAStatus | reportLVDT
  deriving DecidableEq, Repr

/-- The axis class of an address (R131). -/
inductive Axis where
  | single | dual
  deriving DecidableEq, Repr

/-- The orientation of a force actuator (R7, R217). -/
inductive Orientation where
  | singleAxis | positiveX | negativeX | positiveY | negativeY
  deriving DecidableEq, Repr

/-- The kind of an inter-frame directive (R82, R124). -/
inductive DirKind where
  | waitRx | delay
  deriving DecidableEq, Repr

/-- `cfg.floatOrder` (R83). -/
inductive FloatOrder where
  | little | big
  deriving DecidableEq, Repr

/-- The closed enum `FaultCodes` (R384), in the order of its numbers 0 to 21. -/
inductive FaultCode where
  | noFault | ilcCommunicationTimeout | forceActuatorFollowingError | hardpointMeasuredForce
  | hardpointAirPressure | mirrorMoment | nearNeighbor | mirrorWeight | farNeighbor
  | forceClipStatic | forceClipElevation | forceClipAzimuth | forceClipVelocity
  | forceClipAcceleration | forceClipThermal | forceClipBalance | forceClipActiveOptic
  | forceClipOffset | forceClipFinal | raiseOperationTimeout | lowerOperationTimeout
  | communicationMismatch
  deriving DecidableEq, Repr

/-- One entry of the source's ILCMap (R28). -/
structure IlcEntry where
  actuatorId : I32
  dataIndex : I32
  secondaryDataIndex : I32
  xDataIndex : I32
  yDataIndex : I32
  type : ActType
  deriving DecidableEq, Repr

/-! ## The configuration record -/

/-- Which set of total functions a configuration carries (`encodeParams`, `decodePayload`,
`rxDataByte`, `toCylinder`, `fromCylinder`, `expectedWeight`). `openSet n` is unconstrained: its
functions are the opaque constants below, at index `n`. `tc` and `tcHigh` are the test functions of
spec/95_test_vectors.md (`TC1`/`TC2`, and `TCX` with the data byte in the high half of the word). -/
inductive TableSet where
  | openSet (n : BitVec 16)
  | tc
  | tcHigh
  deriving DecidableEq, Repr

/-- A row of the static actuator table (R7). -/
structure ActuatorRow where
  entry : IlcEntry
  subnet : Byte
  address : Byte
  deriving DecidableEq, Repr

/-- An entry of the finite map `directiveWord` (R112). -/
structure DirectiveEntry where
  kind : DirKind
  us : Nat
  word : Word16
  deriving DecidableEq, Repr

/-- `cfg.wire`, the transport literals (R112), less `rxDataByte`, which `TableSet` selects.
`txDataWord` is the table of the 256 data words; `directiveWord` is the partial function given by its
graph, which R112 makes finite (its values are distinct `u16` words). -/
structure WireCfg where
  txDataWord : List Word16
  swTrigger : Word16
  triggerIrq : Word16
  txEndOfFrame : Word16
  directiveWord : List DirectiveEntry
  rxEofTag : BitVec 4
  deriving DecidableEq, Repr

/-- The sizes and the actuator table (R7). -/
structure PlantCfg where
  nFA : Nat
  nX : Nat
  nY : Nat
  actuatorTable : List ActuatorRow
  orientation : List Orientation
  xIndex : List I32
  yIndex : List I32
  subnetAddrs : PerSubnet (List Byte)
  deriving DecidableEq, Repr

/-- An entry of `cfg.timing`: the directive of one function code (R124). -/
structure TimingEntry where
  code : FnCode
  kind : DirKind
  us : Nat
  deriving DecidableEq, Repr

/-- A (type, function) pair with a parse routine (R129). -/
structure RecognisedPair where
  type : ActType
  code : FnCode
  deriving DecidableEq, Repr

/-- What FRAME takes from the configuration (R7). -/
structure FrameCfg where
  timing : List TimingEntry
  wire : WireCfg
  floatOrder : FloatOrder
  recognised : List RecognisedPair
  excDecrements : Bool
  irqTimeoutMs : Nat
  txCap : Nat
  rxCap : Nat
  deriving DecidableEq, Repr

/-- The limit tables `LowFault`/`HighFault` of one component or of the final stage (R7). -/
structure Limits where
  low : Tri F32
  high : Tri F32
  deriving DecidableEq, Repr

/-- What FORCE takes from the configuration (R7). -/
structure ForceCfg where
  limits : PerComp Limits
  finalLimits : Limits
  maxRate : PerComp F32
  nearZeroEps : F32
  pos : List Vec3
  momentFault : Vec3
  momentWarn : Vec3
  momentWarnCount : Nat
  nearNbr : List (List Nat)
  farNbr : List (List Nat)
  nearAbs : F32
  nearRel : F32
  farAbs : F32
  farRel : F32
  weightTol : F32
  deriving DecidableEq, Repr

/-- What SAFETY takes from the configuration (R7). `faultEnabled` lists the enabled codes. -/
structure SafetyCfg where
  faultEnabled : List FaultCode
  winPeriod : PerWindow Nat
  winThreshold : PerWindow Nat
  reportMax : Nat
  nTrig : Nat
  deriving DecidableEq, Repr

/-- What RAISE takes from the configuration (R7). -/
structure RaiseCfg where
  raiseInc : F64
  lowerDec : F64
  staticEnablePct : F64
  raiseTimeout : F64
  lowerTimeout : F64
  feRaiseTol : F32
  hpRaiseBand : Band
  hpLowerBand : Band
  hpcBand : F32
  hpcInRange : Nat
  hpcMax : Nat
  deriving DecidableEq, Repr

/-- The configuration record `cfg` (R7, R64). -/
structure Cfg where
  plant : PlantCfg
  tables : TableSet
  frame : FrameCfg
  force : ForceCfg
  safety : SafetyCfg
  raise : RaiseCfg
  deriving DecidableEq, Repr

/-! ## Operand records of the open functions -/

/-- The operand record `args` of an `APPEND` (R184): the cylinder setpoints of function 75 (R227) and
the bytes of whatever else the request's open layout takes (R128). -/
structure AppendArgs where
  primary : Option F32
  secondary : Option F32
  extra : List Byte
  deriving DecidableEq, Repr

/-- One write `(slot, value)` of an `Update` (R128). -/
inductive SlotWrite where
  | primary (v : F32)
  | secondary (v : F32)
  | hpForce (v : F32)
  | other (name : String) (value : Nat)
  deriving DecidableEq, Repr

/-- The float operations whose NaN result IEEE-754 leaves open. -/
inductive FloatOp where
  | add | sub | mul | div | sqrt
  deriving DecidableEq, Repr

/-! ## The open constants

None has a body: no value of one can be evaluated or proved. -/

/-- Sign and payload (22 bits) of the quiet NaN a binary32 operation answers (R267 names IEEE-754,
which leaves them open; notes/assumptions/6.md). -/
opaque Config.nan32 : FloatOp → F32 → F32 → BitVec 23

/-- Sign and payload (51 bits) of the quiet NaN a binary64 operation answers (notes/assumptions/6.md). -/
opaque Config.nan64 : FloatOp → F64 → F64 → BitVec 52

/-- Which operand a `min` or `max` answers when the operands are unordered or are zeros of different
sign (notes/assumptions/7.md). -/
opaque Config.pick32 : F32 → F32 → Bool

/-- The same for binary64 (notes/assumptions/7.md). -/
opaque Config.pick64 : F64 → F64 → Bool

/-- `cfg.encodeParams` of an open table set (R128, D14). -/
opaque Config.encodeParams : BitVec 16 → FnCode → IlcEntry → Axis → AppendArgs → Option (List Byte)

/-- What fixes the width of a function 75 request of an open table set: one less than the bytes of a
`Single` one, and one less than what a `Dual` one has more (R128, R227; notes/assumptions/11.md). -/
opaque Config.requestWidth : BitVec 16 → Axis → Nat

/-- The payload lengths `cfg.decodePayload` of an open table set accepts (R128: `none` means that the
length is wrong for the (type, function, axis)). -/
opaque Config.payloadLengthOk : BitVec 16 → ActType → FnCode → Axis → Nat → Bool

/-- The update `cfg.decodePayload` of an open table set gives for a payload of an accepted length. -/
opaque Config.payloadWrites : BitVec 16 → ActType → FnCode → Axis → List Byte → List SlotWrite

/-- The one or two force values of a response payload of function 75 or 76 (R128). -/
opaque Config.forceValues : BitVec 16 → FnCode → Axis → List Byte → F32 × F32

/-- `cfg.wire.rxDataByte` of an open table set, total (R112, D4). -/
opaque Config.rxDataByte : BitVec 16 → Word16 → Byte

/-- `cfg.toCylinder` of an open table set, but for `singleAxis` (R282, D30). -/
opaque Config.toCylinder : BitVec 16 → Orientation → F32 → F32 → F32 → F32 × F32

/-- `cfg.fromCylinder` of an open table set (R217, D30). -/
opaque Config.fromCylinder : BitVec 16 → Orientation → F32 → F32 → F32 × F32 × F32

/-- What stands before, between and after the numbers of the decimal list in a note (R350, which does not
say; notes/assumptions/15.md). -/
opaque Config.listOpen : List Byte

opaque Config.listSep : List Byte

opaque Config.listClose : List Byte

/-- `cfg.expectedWeight` of an open table set (R286, D34). -/
opaque Config.expectedWeight : BitVec 16 → F64 → F64 → F32

end Sys2Proof
end

