-- ==== Sys2Proof/Syntax.lean ====
section
/-! DEFINITION. The instructions of the block (spec/30_encoding.md R126, R140): one constructor for
each row of spec/opcode_table.json. The first 74 are the operations of the command port, with the
operands their rules list (the oracle's draws among them, R15); the last 21 are the wire's: a response
frame of a function code, after its CRC has been checked, on its way through `PARSE` (R212, R220 to
R240). -/

namespace Sys2Proof

/-- A cell of a frame buffer (R82); a byte buffer is a cell buffer all of whose cells are `data`. -/
inductive Cell where
  | data (b : Byte)
  | swTrigger
  | triggerIrq
  | endOfFrame
  | directive (kind : DirKind) (us : Nat)
  deriving DecidableEq, Repr

/-- The instructions. -/
inductive Instr where
  -- Binary Codec, reads (R152 to R162)
  | getU8 (buf : List Cell) (cur : Nat)
  | getI8 (buf : List Cell) (cur : Nat)
  | getU16 (buf : List Cell) (cur : Nat)
  | getI16 (buf : List Cell) (cur : Nat)
  | getU32 (buf : List Cell) (cur : Nat)
  | getI32 (buf : List Cell) (cur : Nat)
  | getU64 (buf : List Cell) (cur : Nat)
  | getI64 (buf : List Cell) (cur : Nat)
  | getF32 (buf : List Cell) (cur : Nat)
  | getF64 (buf : List Cell) (cur : Nat)
  | getStr (buf : List Cell) (cur : Nat)
  -- Binary Codec, writes (R163 to R173); a signed operand is an integer in its range
  | setU8 (buf : List Cell) (cur : Nat) (value : BitVec 8)
  | setI8 (buf : List Cell) (cur : Nat) (value : Int)
  | setU16 (buf : List Cell) (cur : Nat) (value : BitVec 16)
  | setI16 (buf : List Cell) (cur : Nat) (value : Int)
  | setU32 (buf : List Cell) (cur : Nat) (value : BitVec 32)
  | setI32 (buf : List Cell) (cur : Nat) (value : Int)
  | setU64 (buf : List Cell) (cur : Nat) (value : BitVec 64)
  | setI64 (buf : List Cell) (cur : Nat) (value : Int)
  | setF32 (buf : List Cell) (cur : Nat) (value : F32)
  | setF64 (buf : List Cell) (cur : Nat) (value : F64)
  | setStr (buf : List Cell) (cur : Nat) (value : List Byte)
  | crc16 (bs : List Byte)
  -- builder and transport (R181 to R192)
  | startSubnet (s : Byte)
  | append (s : Byte) (address : Byte) (f : Byte) (args : AppendArgs)
  | endSubnet (s : Byte)
  | send (s : Byte)
  | waitIrq (s : Byte) (irq : Bool) (rx : List Word16)
  -- map, parser, accounting (R210 to R213, R250)
  | mapBuild
  | parse (s : Byte) (b : Option Byte)
  | reconcile (ts : U64)
  | validateCrc (b : Byte) (p : Nat)
  -- force pipeline (R262 to R280)
  | fcEnable (c : Byte)
  | fcDisable (c : Byte)
  | fcApply (c : Byte) (tX tY tZ : List F32)
  | fcZero (c : Byte)
  | fcUpdate (c : Byte)
  | updateApplied
  | processApplied
  -- safety controller (R313 to R326)
  | notify (code : Byte) (flag : Bool) (report : List Byte)
  | notifyIlcTimeout
  | notifyFaFollowingError (i : Nat) (sample : Bool) (report : List Byte)
  | notifyHpMeasuredForce (h : Byte) (sample : Bool) (report : List Byte)
  | notifyHpAirPressure (h : Byte) (sample : Bool) (report : List Byte)
  | checkSafety (preferred : Byte)
  | clearError
  | clearErrorCode
  | settingsLoad (c : Cfg)
  -- raise and lower (R344 to R371)
  | raiseStart (bypass : Bool) (now : F64)
  | raiseRunloop (waitAirPressure : Bool)
  | raiseCheckComplete (motionComplete : Bool)
  | raiseComplete
  | checkTimeout (now : F64)
  | timeout
  | pause (now : F64)
  | resume (now : F64)
  | rlReset
  | lowerStart (now : F64)
  | lowerRunloop
  | lowerCheckComplete
  | lowerComplete
  | spInc
  | spDec
  | spZero
  | spFill
  | spFilled
  | spZeroed
  | hpcSample (h : Byte) (f : F32)
  | hpcReset (h : Byte)
  | hpcStatus (h : Byte)
  | faFeInTol
  | hpForcesInTol (raise : Bool)
  -- system (R420, R96)
  | reset
  | pullTelemetry (sample : F64)
  -- the wire: a response frame of each function code (R220 to R239), and the exception response (R240)
  | reportServerID (s address : Byte) (payload : List Byte) (ts : U64)
  | reportServerStatus (s address : Byte) (payload : List Byte) (ts : U64)
  | changeMode (s address : Byte) (payload : List Byte) (ts : U64)
  | stepMotor (s address : Byte) (payload : List Byte) (ts : U64)
  | electromechanicalForceAndStatus (s address : Byte) (payload : List Byte) (ts : U64)
  | setBoostValveDCAGains (s address : Byte) (payload : List Byte) (ts : U64)
  | readBoostValveDCAGains (s address : Byte) (payload : List Byte) (ts : U64)
  | forceDemand (s address : Byte) (payload : List Byte) (ts : U64)
  | pneumaticForceStatus (s address : Byte) (payload : List Byte) (ts : U64)
  | setADCScanRate (s address : Byte) (payload : List Byte) (ts : U64)
  | setADCOffsetSensitivity (s address : Byte) (payload : List Byte) (ts : U64)
  | eraseApplication (s address : Byte) (payload : List Byte) (ts : U64)
  | writeApplication (s address : Byte) (payload : List Byte) (ts : U64)
  | verifyApplication (s address : Byte) (payload : List Byte) (ts : U64)
  | resetApplication (s address : Byte) (payload : List Byte) (ts : U64)
  | readCalibration (s address : Byte) (payload : List Byte) (ts : U64)
  | readDCAPressure (s address : Byte) (payload : List Byte) (ts : U64)
  | reportDCAID (s address : Byte) (payload : List Byte) (ts : U64)
  | reportDCAStatus (s address : Byte) (payload : List Byte) (ts : U64)
  | reportLVDT (s address : Byte) (payload : List Byte) (ts : U64)
  | exceptionResponse (s address : Byte) (f : BitVec 7) (payload : List Byte) (ts : U64)
  deriving DecidableEq, Repr

/-- What reaches the block from outside, one item at a time: a command's bytes on the command port
(R24); the body `address ++ function ++ payload` of a response frame whose CRC was right, with the
subnet the lookup uses and the batch's timestamp (the wire's instruction, R212); the reset pin held
low (R421); an interrupt pulse that no `WAIT_IRQ` is waiting for (R391). -/
inductive Input where
  | command (bytes : List Byte)
  | response (s : Byte) (ts : U64) (body : List Byte)
  | rstN
  | irq (s : Subnet)
  deriving DecidableEq, Repr

end Sys2Proof
end

