-- ==== Sys2Proof/WellFormed.lean ====
section
/-! DEFINITION. When an instruction is well-formed: each operand has a value that the port record of
Decode.lean can carry. The spec's operand types are `u8`, `i8`, …, `nat` and lists; the record holds a
`nat` in 64 bits and a list's length in 32 (notes/assumptions/1.md), and a signed operand is in the
range of its type. A wire instruction has no check: a frame's payload is whatever stood before its
CRC. -/

namespace Sys2Proof

/-- A `nat` operand of the port record. -/
def natFits (n : Nat) : Bool := decide (n < 2 ^ 64)

/-- A list of the port record. -/
def listFits {α : Type} (l : List α) : Bool := decide (l.length < 2 ^ 32)

/-- A signed operand of `n` bits (R10). -/
def intFits (n : Nat) (v : Int) : Bool := decide (-(2 ^ (n - 1) : Int) ≤ v) && decide (v < 2 ^ (n - 1))

def Cell.fits : Cell → Bool
  | .directive _ us => natFits us
  | _ => true

/-- A cell buffer and a cursor. -/
def bufFits (buf : List Cell) (cur : Nat) : Bool := listFits buf && buf.all Cell.fits && natFits cur

def triFits {α : Type} (t : Tri α) : Bool := listFits t.x && listFits t.y && listFits t.z

def Limits.fits (l : Limits) : Bool := triFits l.low && triFits l.high

def PerSubnet.all {α : Type} (p : PerSubnet α) (f : α → Bool) : Bool :=
  f p.s1 && f p.s2 && f p.s3 && f p.s4 && f p.s5

def PerComp.all {α : Type} (p : PerComp α) (f : α → Bool) : Bool :=
  f p.static && f p.elevation && f p.azimuth && f p.velocity && f p.acceleration && f p.thermal &&
    f p.balance && f p.activeOptic && f p.offset

def PerWindow.all {α : Type} (p : PerWindow α) (f : α → Bool) : Bool :=
  f p.ilc && f p.fe && f p.hpf && f p.hpa

def nbrFits (l : List (List Nat)) : Bool := listFits l && l.all (fun m => listFits m && m.all natFits)

def PlantCfg.fits (c : PlantCfg) : Bool :=
  natFits c.nFA && natFits c.nX && natFits c.nY && listFits c.actuatorTable &&
    listFits c.orientation && listFits c.xIndex && listFits c.yIndex &&
    c.subnetAddrs.all listFits

def WireCfg.fits (w : WireCfg) : Bool :=
  listFits w.txDataWord && listFits w.directiveWord && w.directiveWord.all (fun d => natFits d.us)

def FrameCfg.fits (c : FrameCfg) : Bool :=
  listFits c.timing && c.timing.all (fun t => natFits t.us) && c.wire.fits && listFits c.recognised &&
    natFits c.irqTimeoutMs && natFits c.txCap && natFits c.rxCap

def ForceCfg.fits (c : ForceCfg) : Bool :=
  c.limits.all Limits.fits && c.finalLimits.fits && listFits c.pos && natFits c.momentWarnCount &&
    nbrFits c.nearNbr && nbrFits c.farNbr

def SafetyCfg.fits (c : SafetyCfg) : Bool :=
  listFits c.faultEnabled && c.winPeriod.all natFits && c.winThreshold.all natFits &&
    natFits c.reportMax && natFits c.nTrig

def RaiseCfg.fits (c : RaiseCfg) : Bool := natFits c.hpcInRange && natFits c.hpcMax

def Cfg.fits (c : Cfg) : Bool :=
  c.plant.fits && c.frame.fits && c.force.fits && c.safety.fits && c.raise.fits

/-- The check of an instruction's operands. -/
def wellFormed : Instr → Bool
  | .getU8 b c | .getI8 b c | .getU16 b c | .getI16 b c | .getU32 b c | .getI32 b c
  | .getU64 b c | .getI64 b c | .getF32 b c | .getF64 b c | .getStr b c => bufFits b c
  | .setU8 b c _ | .setU16 b c _ | .setU32 b c _ | .setU64 b c _ | .setF32 b c _
  | .setF64 b c _ => bufFits b c
  | .setI8 b c v => bufFits b c && intFits 8 v
  | .setI16 b c v => bufFits b c && intFits 16 v
  | .setI32 b c v => bufFits b c && intFits 32 v
  | .setI64 b c v => bufFits b c && intFits 64 v
  | .setStr b c v => bufFits b c && listFits v
  | .crc16 bs => listFits bs
  | .append _ _ _ args => listFits args.extra
  | .waitIrq _ _ rx => listFits rx
  | .validateCrc _ p => natFits p
  | .fcApply _ x y z => listFits x && listFits y && listFits z
  | .notify _ _ r => listFits r
  | .notifyFaFollowingError i _ r => natFits i && listFits r
  | .notifyHpMeasuredForce _ _ r => listFits r
  | .notifyHpAirPressure _ _ r => listFits r
  | .settingsLoad c => c.fits
  | .startSubnet _ | .endSubnet _ | .send _ | .mapBuild | .parse _ _ | .reconcile _
  | .fcEnable _ | .fcDisable _ | .fcZero _ | .fcUpdate _ | .updateApplied | .processApplied
  | .notifyIlcTimeout | .checkSafety _ | .clearError | .clearErrorCode
  | .raiseStart _ _ | .raiseRunloop _ | .raiseCheckComplete _ | .raiseComplete | .checkTimeout _
  | .timeout | .pause _ | .resume _ | .rlReset | .lowerStart _ | .lowerRunloop
  | .lowerCheckComplete | .lowerComplete | .spInc | .spDec | .spZero | .spFill | .spFilled
  | .spZeroed | .hpcSample _ _ | .hpcReset _ | .hpcStatus _ | .faFeInTol | .hpForcesInTol _
  | .reset | .pullTelemetry _ => true
  | .reportServerID _ _ _ _ | .reportServerStatus _ _ _ _ | .changeMode _ _ _ _
  | .stepMotor _ _ _ _ | .electromechanicalForceAndStatus _ _ _ _
  | .setBoostValveDCAGains _ _ _ _ | .readBoostValveDCAGains _ _ _ _ | .forceDemand _ _ _ _
  | .pneumaticForceStatus _ _ _ _ | .setADCScanRate _ _ _ _ | .setADCOffsetSensitivity _ _ _ _
  | .eraseApplication _ _ _ _ | .writeApplication _ _ _ _ | .verifyApplication _ _ _ _
  | .resetApplication _ _ _ _ | .readCalibration _ _ _ _ | .readDCAPressure _ _ _ _
  | .reportDCAID _ _ _ _ | .reportDCAStatus _ _ _ _ | .reportLVDT _ _ _ _
  | .exceptionResponse _ _ _ _ _ => true

end Sys2Proof
end

