-- ==== Sys2Proof/Decode.lean ====
section
/-! DEFINITION. The decoder and the encoder (spec/30_encoding.md R110, R126, R127, R140). The
operation code of a command is the spec's; the bytes of its operands are this model's record, since
the spec gives the operands as a typed record only (notes/assumptions/1.md): the operands in the
order of the rule, integers big-endian in the width of their type, a `nat` in 8 bytes, a list as a
4-byte count and its elements, a Boolean or an enumeration as one byte. Bytes after the record are
ignored. A response frame's body is the spec's own: address, function byte, payload (R117). -/

namespace Sys2Proof

/-! ## Byte order -/

/-- `v` as `n` bytes, most significant first (R83, R125). -/
def beBytes : Nat → Nat → List Byte
  | 0, _ => []
  | n + 1, v => BitVec.ofNat 8 (v / 256 ^ n) :: beBytes n v

/-- The number a list of bytes stands for, most significant byte first (R83). -/
def beNat (bs : List Byte) : Nat := bs.foldl (fun a b => a * 256 + b.toNat) 0

/-- The two's-complement bits of `v` in `n` bytes, as a number (`trunc`, R10). -/
def truncInt (n : Nat) (v : Int) : Nat := (v % 2 ^ (8 * n)).toNat

/-- The two's-complement value of `n` bytes (`sext`, R10, R125). -/
def signedNat (n v : Nat) : Int := if v < 2 ^ (8 * n - 1) then (v : Int) else (v : Int) - 2 ^ (8 * n)

/-! ## Codes of the enumerations -/

/-- The function byte of a request or response (R126). -/
def FnCode.code : FnCode → Byte
  | .reportServerID => 17
  | .reportServerStatus => 18
  | .changeMode => 65
  | .stepMotor => 66
  | .electromechanicalForceAndStatus => 67
  | .setBoostValveDCAGains => 73
  | .readBoostValveDCAGains => 74
  | .forceDemand => 75
  | .pneumaticForceStatus => 76
  | .setADCScanRate => 80
  | .setADCOffsetSensitivity => 81
  | .eraseApplication => 101
  | .writeApplication => 102
  | .verifyApplication => 103
  | .resetApplication => 107
  | .readCalibration => 110
  | .readDCAPressure => 119
  | .reportDCAID => 120
  | .reportDCAStatus => 121
  | .reportLVDT => 122

/-- The catalogue, read backwards (R126): no other value of the function byte is in it. -/
def FnCode.ofByte (b : Byte) : Option FnCode :=
  match b.toNat with
  | 17 => some .reportServerID
  | 18 => some .reportServerStatus
  | 65 => some .changeMode
  | 66 => some .stepMotor
  | 67 => some .electromechanicalForceAndStatus
  | 73 => some .setBoostValveDCAGains
  | 74 => some .readBoostValveDCAGains
  | 75 => some .forceDemand
  | 76 => some .pneumaticForceStatus
  | 80 => some .setADCScanRate
  | 81 => some .setADCOffsetSensitivity
  | 101 => some .eraseApplication
  | 102 => some .writeApplication
  | 103 => some .verifyApplication
  | 107 => some .resetApplication
  | 110 => some .readCalibration
  | 119 => some .readDCAPressure
  | 120 => some .reportDCAID
  | 121 => some .reportDCAStatus
  | 122 => some .reportLVDT
  | _ => none

/-- The function byte of an exception response: the request's code with bit 7 set (R127). -/
def exceptionByte (f : BitVec 7) : Byte := 0x80 ||| BitVec.zeroExtend 8 f

/-- The number of a fault code (R384). -/
def FaultCode.code : FaultCode → Nat
  | .noFault => 0
  | .ilcCommunicationTimeout => 1
  | .forceActuatorFollowingError => 2
  | .hardpointMeasuredForce => 3
  | .hardpointAirPressure => 4
  | .mirrorMoment => 5
  | .nearNeighbor => 6
  | .mirrorWeight => 7
  | .farNeighbor => 8
  | .forceClipStatic => 9
  | .forceClipElevation => 10
  | .forceClipAzimuth => 11
  | .forceClipVelocity => 12
  | .forceClipAcceleration => 13
  | .forceClipThermal => 14
  | .forceClipBalance => 15
  | .forceClipActiveOptic => 16
  | .forceClipOffset => 17
  | .forceClipFinal => 18
  | .raiseOperationTimeout => 19
  | .lowerOperationTimeout => 20
  | .communicationMismatch => 21

/-- The fault code of a number; none above 21 (R384). -/
def FaultCode.ofCode (n : Nat) : Option FaultCode :=
  match n with
  | 0 => some .noFault
  | 1 => some .ilcCommunicationTimeout
  | 2 => some .forceActuatorFollowingError
  | 3 => some .hardpointMeasuredForce
  | 4 => some .hardpointAirPressure
  | 5 => some .mirrorMoment
  | 6 => some .nearNeighbor
  | 7 => some .mirrorWeight
  | 8 => some .farNeighbor
  | 9 => some .forceClipStatic
  | 10 => some .forceClipElevation
  | 11 => some .forceClipAzimuth
  | 12 => some .forceClipVelocity
  | 13 => some .forceClipAcceleration
  | 14 => some .forceClipThermal
  | 15 => some .forceClipBalance
  | 16 => some .forceClipActiveOptic
  | 17 => some .forceClipOffset
  | 18 => some .forceClipFinal
  | 19 => some .raiseOperationTimeout
  | 20 => some .lowerOperationTimeout
  | 21 => some .communicationMismatch
  | _ => none

/-- The code of `Type` (R28). -/
def ActType.code : ActType → Byte
  | .unknown => 0
  | .forceActuator => 1
  | .hardpoint => 2
  | .hardpointMonitor => 3

def ActType.ofByte (b : Byte) : Option ActType :=
  match b.toNat with
  | 0 => some .unknown
  | 1 => some .forceActuator
  | 2 => some .hardpoint
  | 3 => some .hardpointMonitor
  | _ => none

def Orientation.code : Orientation → Byte
  | .singleAxis => 0
  | .positiveX => 1
  | .negativeX => 2
  | .positiveY => 3
  | .negativeY => 4

def Orientation.ofByte (b : Byte) : Option Orientation :=
  match b.toNat with
  | 0 => some .singleAxis
  | 1 => some .positiveX
  | 2 => some .negativeX
  | 3 => some .positiveY
  | 4 => some .negativeY
  | _ => none

def DirKind.code : DirKind → Byte
  | .waitRx => 0
  | .delay => 1

def DirKind.ofByte (b : Byte) : Option DirKind :=
  match b.toNat with
  | 0 => some .waitRx
  | 1 => some .delay
  | _ => none

def FloatOrder.code : FloatOrder → Byte
  | .little => 0
  | .big => 1

def FloatOrder.ofByte (b : Byte) : Option FloatOrder :=
  match b.toNat with
  | 0 => some .little
  | 1 => some .big
  | _ => none

/-! ## Readers of the port record -/

/-- A reader takes a value off the front of a record; none when the bytes are no such value. -/
abbrev Reader (α : Type) := List Byte → Option (α × List Byte)

def rPure {α : Type} (a : α) : Reader α := fun bs => some (a, bs)

def rAp {α β : Type} (rf : Reader (α → β)) (ra : Reader α) : Reader β := fun bs =>
  match rf bs with
  | none => none
  | some (f, bs') =>
    match ra bs' with
    | none => none
    | some (a, rest) => some (f a, rest)

def r1 {α β : Type} (f : α → β) (a : Reader α) : Reader β := rAp (rPure f) a

def r2 {α β γ : Type} (f : α → β → γ) (a : Reader α) (b : Reader β) : Reader γ := rAp (r1 f a) b

def r3 {α β γ δ : Type} (f : α → β → γ → δ) (a : Reader α) (b : Reader β) (c : Reader γ) : Reader δ :=
  rAp (r2 f a b) c

def r4 {α β γ δ ε : Type} (f : α → β → γ → δ → ε) (a : Reader α) (b : Reader β) (c : Reader γ)
    (d : Reader δ) : Reader ε :=
  rAp (r3 f a b c) d

/-- `ra`, then `f`, which may refuse the value. -/
def rFilter {α β : Type} (f : α → Option β) (ra : Reader α) : Reader β := fun bs =>
  match ra bs with
  | none => none
  | some (a, rest) =>
    match f a with
    | none => none
    | some b => some (b, rest)

def rU8 : Reader Byte
  | [] => none
  | b :: rest => some (b, rest)

/-- A number of `n` bytes. -/
def rNum (n : Nat) : Reader Nat := fun bs =>
  if bs.length < n then none else some (beNat (bs.take n), bs.drop n)

def rNat : Reader Nat := rNum 8
def rU16 : Reader Word16 := r1 (BitVec.ofNat 16) (rNum 2)
def rU32 : Reader (BitVec 32) := r1 (BitVec.ofNat 32) (rNum 4)
def rU64 : Reader (BitVec 64) := r1 (BitVec.ofNat 64) (rNum 8)
def rI8 : Reader Int := r1 (signedNat 1) (rNum 1)
def rI16 : Reader Int := r1 (signedNat 2) (rNum 2)
def rI32 : Reader Int := r1 (signedNat 4) (rNum 4)
def rI64 : Reader Int := r1 (signedNat 8) (rNum 8)

def boolOfByte (b : Byte) : Option Bool :=
  match b.toNat with
  | 0 => some false
  | 1 => some true
  | _ => none

def rBool : Reader Bool := rFilter boolOfByte rU8

def rRepeat {α : Type} (ra : Reader α) : Nat → Reader (List α)
  | 0, bs => some ([], bs)
  | n + 1, bs =>
    match ra bs with
    | none => none
    | some (a, bs') =>
      match rRepeat ra n bs' with
      | none => none
      | some (l, rest) => some (a :: l, rest)

def rList {α : Type} (ra : Reader α) : Reader (List α) := fun bs =>
  match rNum 4 bs with
  | none => none
  | some (n, bs') => rRepeat ra n bs'

def rOption {α : Type} (ra : Reader α) : Reader (Option α) := fun bs =>
  match rBool bs with
  | none => none
  | some (false, rest) => some (none, rest)
  | some (true, bs') =>
    match ra bs' with
    | none => none
    | some (a, rest) => some (some a, rest)

def rBytes : Reader (List Byte) := rList rU8
def rWords : Reader (List Word16) := rList rU16
def rF32s : Reader (List F32) := rList rU32
def rOptU8 : Reader (Option Byte) := rOption rU8

def rDirKind : Reader DirKind := rFilter DirKind.ofByte rU8

def rCell : Reader Cell := fun bs =>
  match bs with
  | [] => none
  | t :: rest =>
    match t.toNat with
    | 0 => r1 Cell.data rU8 rest
    | 1 => some (.swTrigger, rest)
    | 2 => some (.triggerIrq, rest)
    | 3 => some (.endOfFrame, rest)
    | 4 => r2 Cell.directive rDirKind rNat rest
    | _ => none

def rBuf : Reader (List Cell) := rList rCell

def rArgs : Reader AppendArgs := r3 AppendArgs.mk (rOption rU32) (rOption rU32) rBytes

/-! ## Readers of a configuration record -/

def rActType : Reader ActType := rFilter ActType.ofByte rU8
def rFnCode : Reader FnCode := rFilter FnCode.ofByte rU8
def rOrientation : Reader Orientation := rFilter Orientation.ofByte rU8
def rFaultCode : Reader FaultCode := rFilter (fun b => FaultCode.ofCode b.toNat) rU8
def rFloatOrder : Reader FloatOrder := rFilter FloatOrder.ofByte rU8

def rTri {α : Type} (ra : Reader α) : Reader (Tri α) := r3 Tri.mk (rList ra) (rList ra) (rList ra)
def rVec3 : Reader Vec3 := r3 Vec3.mk rU32 rU32 rU32
def rBand : Reader Band := r2 Band.mk rU32 rU32
def rLimits : Reader Limits := r2 Limits.mk (rTri rU32) (rTri rU32)

def rPerSubnet {α : Type} (r : Reader α) : Reader (PerSubnet α) := rAp (r4 PerSubnet.mk r r r r) r
def rPerComp {α : Type} (r : Reader α) : Reader (PerComp α) :=
  rAp (rAp (rAp (rAp (rAp (r4 PerComp.mk r r r r) r) r) r) r) r
def rPerWindow {α : Type} (r : Reader α) : Reader (PerWindow α) := r4 PerWindow.mk r r r r

def rTableSet : Reader TableSet := fun bs =>
  match bs with
  | [] => none
  | t :: rest =>
    match t.toNat with
    | 0 => r1 TableSet.openSet rU16 rest
    | 1 => some (.tc, rest)
    | 2 => some (.tcHigh, rest)
    | _ => none

def rEntry : Reader IlcEntry := rAp (rAp (r4 IlcEntry.mk rU32 rU32 rU32 rU32) rU32) rActType
def rRow : Reader ActuatorRow := r3 ActuatorRow.mk rEntry rU8 rU8
def rDirectiveEntry : Reader DirectiveEntry := r3 DirectiveEntry.mk rDirKind rNat rU16
def rTimingEntry : Reader TimingEntry := r3 TimingEntry.mk rFnCode rDirKind rNat
def rRecognised : Reader RecognisedPair := r2 RecognisedPair.mk rActType rFnCode

def rNibble : Reader (BitVec 4) :=
  rFilter (fun b : Byte => if b.toNat < 16 then some (BitVec.ofNat 4 b.toNat) else none) rU8

def rWire : Reader WireCfg :=
  rAp (rAp (r4 WireCfg.mk rWords rU16 rU16 rU16) (rList rDirectiveEntry)) rNibble

def rPlant : Reader PlantCfg :=
  rAp (rAp (rAp (rAp (r4 PlantCfg.mk rNat rNat rNat (rList rRow)) (rList rOrientation))
    (rList rU32)) (rList rU32)) (rPerSubnet rBytes)

def rFrameCfg : Reader FrameCfg :=
  rAp (rAp (rAp (rAp (r4 FrameCfg.mk (rList rTimingEntry) rWire rFloatOrder (rList rRecognised))
    rBool) rNat) rNat) rNat

def rForceCfg : Reader ForceCfg :=
  rAp (rAp (rAp (rAp (rAp (rAp (rAp (rAp (rAp (rAp (rAp
    (r4 ForceCfg.mk (rPerComp rLimits) rLimits (rPerComp rU32) rU32) (rList rVec3)) rVec3) rVec3)
    rNat) (rList (rList rNat))) (rList (rList rNat))) rU32) rU32) rU32) rU32) rU32

def rSafetyCfg : Reader SafetyCfg :=
  rAp (r4 SafetyCfg.mk (rList rFaultCode) (rPerWindow rNat) (rPerWindow rNat) rNat) rNat

def rRaiseCfg : Reader RaiseCfg :=
  rAp (rAp (rAp (rAp (rAp (rAp (rAp (r4 RaiseCfg.mk rU64 rU64 rU64 rU64) rU64) rU32) rBand) rBand)
    rU32) rNat) rNat

def rCfg : Reader Cfg :=
  rAp (rAp (r4 Cfg.mk rPlant rTableSet rFrameCfg rForceCfg) rSafetyCfg) rRaiseCfg

/-! ## The decoder -/

/-- Why an input is no instruction. -/
inductive DecodeError where
  /-- A command without an operation code. -/
  | empty
  /-- An operation code R140 does not assign. -/
  | unassigned (op : Byte)
  /-- The bytes after the operation code are not the record of its operands. -/
  | malformed (op : Byte)
  /-- A response frame's body without an address or a function byte. -/
  | shortFrame
  /-- A function byte below 128 that is outside the catalogue (R126, R130). -/
  | unknownFunction (g : Byte)
  /-- A pin event, which is no instruction. -/
  | pinEvent
  deriving DecidableEq, Repr

/-- The reader of an operation's operands, by operation code (R140); none for an unassigned code. -/
def operandReader (op : Byte) : Option (Reader Instr) :=
  match op.toNat with
  | 0x00 => some (r2 Instr.getU8 rBuf rNat)
  | 0x01 => some (r2 Instr.getI8 rBuf rNat)
  | 0x02 => some (r2 Instr.getU16 rBuf rNat)
  | 0x03 => some (r2 Instr.getI16 rBuf rNat)
  | 0x04 => some (r2 Instr.getU32 rBuf rNat)
  | 0x05 => some (r2 Instr.getI32 rBuf rNat)
  | 0x06 => some (r2 Instr.getU64 rBuf rNat)
  | 0x07 => some (r2 Instr.getI64 rBuf rNat)
  | 0x08 => some (r2 Instr.getF32 rBuf rNat)
  | 0x09 => some (r2 Instr.getF64 rBuf rNat)
  | 0x0A => some (r2 Instr.getStr rBuf rNat)
  | 0x10 => some (r3 Instr.setU8 rBuf rNat rU8)
  | 0x11 => some (r3 Instr.setI8 rBuf rNat rI8)
  | 0x12 => some (r3 Instr.setU16 rBuf rNat rU16)
  | 0x13 => some (r3 Instr.setI16 rBuf rNat rI16)
  | 0x14 => some (r3 Instr.setU32 rBuf rNat rU32)
  | 0x15 => some (r3 Instr.setI32 rBuf rNat rI32)
  | 0x16 => some (r3 Instr.setU64 rBuf rNat rU64)
  | 0x17 => some (r3 Instr.setI64 rBuf rNat rI64)
  | 0x18 => some (r3 Instr.setF32 rBuf rNat rU32)
  | 0x19 => some (r3 Instr.setF64 rBuf rNat rU64)
  | 0x1A => some (r3 Instr.setStr rBuf rNat rBytes)
  | 0x1F => some (r1 Instr.crc16 rBytes)
  | 0x20 => some (r1 Instr.startSubnet rU8)
  | 0x21 => some (r4 Instr.append rU8 rU8 rU8 rArgs)
  | 0x22 => some (r1 Instr.endSubnet rU8)
  | 0x24 => some (r1 Instr.send rU8)
  | 0x25 => some (r3 Instr.waitIrq rU8 rBool rWords)
  | 0x30 => some (rPure Instr.mapBuild)
  | 0x31 => some (r2 Instr.parse rU8 rOptU8)
  | 0x32 => some (r1 Instr.reconcile rU64)
  | 0x33 => some (r2 Instr.validateCrc rU8 rNat)
  | 0x40 => some (r1 Instr.fcEnable rU8)
  | 0x41 => some (r1 Instr.fcDisable rU8)
  | 0x42 => some (r4 Instr.fcApply rU8 rF32s rF32s rF32s)
  | 0x43 => some (r1 Instr.fcZero rU8)
  | 0x44 => some (r1 Instr.fcUpdate rU8)
  | 0x45 => some (rPure Instr.updateApplied)
  | 0x46 => some (rPure Instr.processApplied)
  | 0x50 => some (r3 Instr.notify rU8 rBool rBytes)
  | 0x51 => some (rPure Instr.notifyIlcTimeout)
  | 0x52 => some (r3 Instr.notifyFaFollowingError rNat rBool rBytes)
  | 0x53 => some (r3 Instr.notifyHpMeasuredForce rU8 rBool rBytes)
  | 0x54 => some (r3 Instr.notifyHpAirPressure rU8 rBool rBytes)
  | 0x58 => some (r1 Instr.checkSafety rU8)
  | 0x59 => some (rPure Instr.clearError)
  | 0x5A => some (rPure Instr.clearErrorCode)
  | 0x5E => some (r1 Instr.settingsLoad rCfg)
  | 0x60 => some (r2 Instr.raiseStart rBool rU64)
  | 0x61 => some (r1 Instr.raiseRunloop rBool)
  | 0x62 => some (r1 Instr.raiseCheckComplete rBool)
  | 0x63 => some (rPure Instr.raiseComplete)
  | 0x64 => some (r1 Instr.checkTimeout rU64)
  | 0x65 => some (rPure Instr.timeout)
  | 0x66 => some (r1 Instr.pause rU64)
  | 0x67 => some (r1 Instr.resume rU64)
  | 0x68 => some (rPure Instr.rlReset)
  | 0x69 => some (r1 Instr.lowerStart rU64)
  | 0x6A => some (rPure Instr.lowerRunloop)
  | 0x6B => some (rPure Instr.lowerCheckComplete)
  | 0x6C => some (rPure Instr.lowerComplete)
  | 0x70 => some (rPure Instr.spInc)
  | 0x71 => some (rPure Instr.spDec)
  | 0x72 => some (rPure Instr.spZero)
  | 0x73 => some (rPure Instr.spFill)
  | 0x74 => some (rPure Instr.spFilled)
  | 0x75 => some (rPure Instr.spZeroed)
  | 0x78 => some (r2 Instr.hpcSample rU8 rU32)
  | 0x79 => some (r1 Instr.hpcReset rU8)
  | 0x7A => some (r1 Instr.hpcStatus rU8)
  | 0x7C => some (rPure Instr.faFeInTol)
  | 0x7D => some (r1 Instr.hpForcesInTol rBool)
  | 0x80 => some (rPure Instr.reset)
  | 0x81 => some (r1 Instr.pullTelemetry rU64)
  | _ => none

/-- A command's instruction and the bytes after its record. -/
def decodeCommand : List Byte → Except DecodeError (Instr × List Byte)
  | [] => .error .empty
  | op :: rest =>
    match operandReader op with
    | none => .error (.unassigned op)
    | some r =>
      match r rest with
      | none => .error (.malformed op)
      | some x => .ok x

/-- The wire instruction of a function code of the catalogue (R220 to R239). -/
def responseInstr (f : FnCode) (s a : Byte) (p : List Byte) (ts : U64) : Instr :=
  match f with
  | .reportServerID => .reportServerID s a p ts
  | .reportServerStatus => .reportServerStatus s a p ts
  | .changeMode => .changeMode s a p ts
  | .stepMotor => .stepMotor s a p ts
  | .electromechanicalForceAndStatus => .electromechanicalForceAndStatus s a p ts
  | .setBoostValveDCAGains => .setBoostValveDCAGains s a p ts
  | .readBoostValveDCAGains => .readBoostValveDCAGains s a p ts
  | .forceDemand => .forceDemand s a p ts
  | .pneumaticForceStatus => .pneumaticForceStatus s a p ts
  | .setADCScanRate => .setADCScanRate s a p ts
  | .setADCOffsetSensitivity => .setADCOffsetSensitivity s a p ts
  | .eraseApplication => .eraseApplication s a p ts
  | .writeApplication => .writeApplication s a p ts
  | .verifyApplication => .verifyApplication s a p ts
  | .resetApplication => .resetApplication s a p ts
  | .readCalibration => .readCalibration s a p ts
  | .readDCAPressure => .readDCAPressure s a p ts
  | .reportDCAID => .reportDCAID s a p ts
  | .reportDCAStatus => .reportDCAStatus s a p ts
  | .reportLVDT => .reportLVDT s a p ts
/-- A response frame's instruction (R117, R126, R127): the catalogue's function codes, and every byte
with bit 7 set as an exception response. -/
def decodeResponse (s : Byte) (ts : U64) : List Byte → Except DecodeError Instr
  | a :: g :: p =>
    if 128 ≤ g.toNat then .ok (.exceptionResponse s a (BitVec.ofNat 7 g.toNat) p ts)
    else
      match FnCode.ofByte g with
      | some f => .ok (responseInstr f s a p ts)
      | none => .error (.unknownFunction g)
  | _ => .error .shortFrame

/-- The instruction an input carries. -/
def decodeInput : Input → Except DecodeError Instr
  | .command bytes =>
    match decodeCommand bytes with
    | .ok (i, _) => .ok i
    | .error e => .error e
  | .response s ts body => decodeResponse s ts body
  | .rstN => .error .pinEvent
  | .irq _ => .error .pinEvent

/-! ## The encoder -/

def eNat (n : Nat) : List Byte := beBytes 8 n
def eU8 (b : Byte) : List Byte := [b]
def eU16 (v : Word16) : List Byte := beBytes 2 v.toNat
def eU32 (v : BitVec 32) : List Byte := beBytes 4 v.toNat
def eU64 (v : BitVec 64) : List Byte := beBytes 8 v.toNat
def eI8 (v : Int) : List Byte := beBytes 1 (truncInt 1 v)
def eI16 (v : Int) : List Byte := beBytes 2 (truncInt 2 v)
def eI32 (v : Int) : List Byte := beBytes 4 (truncInt 4 v)
def eI64 (v : Int) : List Byte := beBytes 8 (truncInt 8 v)
def eBool (b : Bool) : List Byte := if b then [1] else [0]

def eList {α : Type} (e : α → List Byte) (l : List α) : List Byte :=
  beBytes 4 l.length ++ l.flatMap e

def eOption {α : Type} (e : α → List Byte) : Option α → List Byte
  | none => [0]
  | some a => 1 :: e a

def eBytes (l : List Byte) : List Byte := eList eU8 l
def eWords (l : List Word16) : List Byte := eList eU16 l
def eF32s (l : List F32) : List Byte := eList eU32 l
def eOptU8 (b : Option Byte) : List Byte := eOption eU8 b

def eCell : Cell → List Byte
  | .data b => [0, b]
  | .swTrigger => [1]
  | .triggerIrq => [2]
  | .endOfFrame => [3]
  | .directive k us => 4 :: k.code :: eNat us

def eBuf (l : List Cell) : List Byte := eList eCell l

def eArgs (a : AppendArgs) : List Byte :=
  eOption eU32 a.primary ++ (eOption eU32 a.secondary ++ eBytes a.extra)

def eTri {α : Type} (e : α → List Byte) (t : Tri α) : List Byte :=
  eList e t.x ++ (eList e t.y ++ eList e t.z)
def eVec3 (v : Vec3) : List Byte := eU32 v.x ++ (eU32 v.y ++ eU32 v.z)
def eBand (b : Band) : List Byte := eU32 b.lo ++ eU32 b.hi
def eLimits (l : Limits) : List Byte := eTri eU32 l.low ++ eTri eU32 l.high

def ePerSubnet {α : Type} (e : α → List Byte) (p : PerSubnet α) : List Byte :=
  e p.s1 ++ (e p.s2 ++ (e p.s3 ++ (e p.s4 ++ e p.s5)))
def ePerComp {α : Type} (e : α → List Byte) (p : PerComp α) : List Byte :=
  e p.static ++ (e p.elevation ++ (e p.azimuth ++ (e p.velocity ++ (e p.acceleration ++
    (e p.thermal ++ (e p.balance ++ (e p.activeOptic ++ e p.offset)))))))
def ePerWindow {α : Type} (e : α → List Byte) (p : PerWindow α) : List Byte :=
  e p.ilc ++ (e p.fe ++ (e p.hpf ++ e p.hpa))

def eTableSet : TableSet → List Byte
  | .openSet n => 0 :: eU16 n
  | .tc => [1]
  | .tcHigh => [2]

def eEntry (e : IlcEntry) : List Byte :=
  eU32 e.actuatorId ++ (eU32 e.dataIndex ++ (eU32 e.secondaryDataIndex ++ (eU32 e.xDataIndex ++
    (eU32 e.yDataIndex ++ [e.type.code]))))
def eRow (r : ActuatorRow) : List Byte := eEntry r.entry ++ [r.subnet, r.address]
def eDirectiveEntry (d : DirectiveEntry) : List Byte := d.kind.code :: (eNat d.us ++ eU16 d.word)
def eTimingEntry (t : TimingEntry) : List Byte := t.code.code :: t.kind.code :: eNat t.us
def eRecognised (p : RecognisedPair) : List Byte := [p.type.code, p.code.code]
def eFaultCode (c : FaultCode) : List Byte := [BitVec.ofNat 8 c.code]

def eWire (w : WireCfg) : List Byte :=
  eWords w.txDataWord ++ (eU16 w.swTrigger ++ (eU16 w.triggerIrq ++ (eU16 w.txEndOfFrame ++
    (eList eDirectiveEntry w.directiveWord ++ [BitVec.zeroExtend 8 w.rxEofTag]))))

def ePlant (c : PlantCfg) : List Byte :=
  eNat c.nFA ++ (eNat c.nX ++ (eNat c.nY ++ (eList eRow c.actuatorTable ++
    (eList (fun o : Orientation => [o.code]) c.orientation ++ (eList eU32 c.xIndex ++
      (eList eU32 c.yIndex ++ ePerSubnet eBytes c.subnetAddrs))))))

def eFrameCfg (c : FrameCfg) : List Byte :=
  eList eTimingEntry c.timing ++ (eWire c.wire ++ (c.floatOrder.code ::
    (eList eRecognised c.recognised ++ (eBool c.excDecrements ++ (eNat c.irqTimeoutMs ++
      (eNat c.txCap ++ eNat c.rxCap))))))

def eForceCfg (c : ForceCfg) : List Byte :=
  ePerComp eLimits c.limits ++ (eLimits c.finalLimits ++ (ePerComp eU32 c.maxRate ++
    (eU32 c.nearZeroEps ++ (eList eVec3 c.pos ++ (eVec3 c.momentFault ++ (eVec3 c.momentWarn ++
      (eNat c.momentWarnCount ++ (eList (eList eNat) c.nearNbr ++ (eList (eList eNat) c.farNbr ++
        (eU32 c.nearAbs ++ (eU32 c.nearRel ++ (eU32 c.farAbs ++ (eU32 c.farRel ++
          eU32 c.weightTol)))))))))))))

def eSafetyCfg (c : SafetyCfg) : List Byte :=
  eList eFaultCode c.faultEnabled ++ (ePerWindow eNat c.winPeriod ++ (ePerWindow eNat c.winThreshold ++
    (eNat c.reportMax ++ eNat c.nTrig)))

def eRaiseCfg (c : RaiseCfg) : List Byte :=
  eU64 c.raiseInc ++ (eU64 c.lowerDec ++ (eU64 c.staticEnablePct ++ (eU64 c.raiseTimeout ++
    (eU64 c.lowerTimeout ++ (eU32 c.feRaiseTol ++ (eBand c.hpRaiseBand ++ (eBand c.hpLowerBand ++
      (eU32 c.hpcBand ++ (eNat c.hpcInRange ++ eNat c.hpcMax)))))))))

def eCfg (c : Cfg) : List Byte :=
  ePlant c.plant ++ (eTableSet c.tables ++ (eFrameCfg c.frame ++ (eForceCfg c.force ++
    (eSafetyCfg c.safety ++ eRaiseCfg c.raise))))

/-- The port record of an operation: its code (R140), then its operands in the order of its rule;
nothing for a wire instruction, which no command carries. -/
def encodeCommand : Instr → List Byte
  | .getU8 a b => 0x00 :: (eBuf a ++ eNat b)
  | .getI8 a b => 0x01 :: (eBuf a ++ eNat b)
  | .getU16 a b => 0x02 :: (eBuf a ++ eNat b)
  | .getI16 a b => 0x03 :: (eBuf a ++ eNat b)
  | .getU32 a b => 0x04 :: (eBuf a ++ eNat b)
  | .getI32 a b => 0x05 :: (eBuf a ++ eNat b)
  | .getU64 a b => 0x06 :: (eBuf a ++ eNat b)
  | .getI64 a b => 0x07 :: (eBuf a ++ eNat b)
  | .getF32 a b => 0x08 :: (eBuf a ++ eNat b)
  | .getF64 a b => 0x09 :: (eBuf a ++ eNat b)
  | .getStr a b => 0x0A :: (eBuf a ++ eNat b)
  | .setU8 a b c => 0x10 :: (eBuf a ++ eNat b ++ eU8 c)
  | .setI8 a b c => 0x11 :: (eBuf a ++ eNat b ++ eI8 c)
  | .setU16 a b c => 0x12 :: (eBuf a ++ eNat b ++ eU16 c)
  | .setI16 a b c => 0x13 :: (eBuf a ++ eNat b ++ eI16 c)
  | .setU32 a b c => 0x14 :: (eBuf a ++ eNat b ++ eU32 c)
  | .setI32 a b c => 0x15 :: (eBuf a ++ eNat b ++ eI32 c)
  | .setU64 a b c => 0x16 :: (eBuf a ++ eNat b ++ eU64 c)
  | .setI64 a b c => 0x17 :: (eBuf a ++ eNat b ++ eI64 c)
  | .setF32 a b c => 0x18 :: (eBuf a ++ eNat b ++ eU32 c)
  | .setF64 a b c => 0x19 :: (eBuf a ++ eNat b ++ eU64 c)
  | .setStr a b c => 0x1A :: (eBuf a ++ eNat b ++ eBytes c)
  | .crc16 a => 0x1F :: (eBytes a)
  | .startSubnet a => 0x20 :: (eU8 a)
  | .append a b c d => 0x21 :: (eU8 a ++ eU8 b ++ eU8 c ++ eArgs d)
  | .endSubnet a => 0x22 :: (eU8 a)
  | .send a => 0x24 :: (eU8 a)
  | .waitIrq a b c => 0x25 :: (eU8 a ++ eBool b ++ eWords c)
  | .mapBuild => [0x30]
  | .parse a b => 0x31 :: (eU8 a ++ eOptU8 b)
  | .reconcile a => 0x32 :: (eU64 a)
  | .validateCrc a b => 0x33 :: (eU8 a ++ eNat b)
  | .fcEnable a => 0x40 :: (eU8 a)
  | .fcDisable a => 0x41 :: (eU8 a)
  | .fcApply a b c d => 0x42 :: (eU8 a ++ eF32s b ++ eF32s c ++ eF32s d)
  | .fcZero a => 0x43 :: (eU8 a)
  | .fcUpdate a => 0x44 :: (eU8 a)
  | .updateApplied => [0x45]
  | .processApplied => [0x46]
  | .notify a b c => 0x50 :: (eU8 a ++ eBool b ++ eBytes c)
  | .notifyIlcTimeout => [0x51]
  | .notifyFaFollowingError a b c => 0x52 :: (eNat a ++ eBool b ++ eBytes c)
  | .notifyHpMeasuredForce a b c => 0x53 :: (eU8 a ++ eBool b ++ eBytes c)
  | .notifyHpAirPressure a b c => 0x54 :: (eU8 a ++ eBool b ++ eBytes c)
  | .checkSafety a => 0x58 :: (eU8 a)
  | .clearError => [0x59]
  | .clearErrorCode => [0x5A]
  | .settingsLoad a => 0x5E :: (eCfg a)
  | .raiseStart a b => 0x60 :: (eBool a ++ eU64 b)
  | .raiseRunloop a => 0x61 :: (eBool a)
  | .raiseCheckComplete a => 0x62 :: (eBool a)
  | .raiseComplete => [0x63]
  | .checkTimeout a => 0x64 :: (eU64 a)
  | .timeout => [0x65]
  | .pause a => 0x66 :: (eU64 a)
  | .resume a => 0x67 :: (eU64 a)
  | .rlReset => [0x68]
  | .lowerStart a => 0x69 :: (eU64 a)
  | .lowerRunloop => [0x6A]
  | .lowerCheckComplete => [0x6B]
  | .lowerComplete => [0x6C]
  | .spInc => [0x70]
  | .spDec => [0x71]
  | .spZero => [0x72]
  | .spFill => [0x73]
  | .spFilled => [0x74]
  | .spZeroed => [0x75]
  | .hpcSample a b => 0x78 :: (eU8 a ++ eU32 b)
  | .hpcReset a => 0x79 :: (eU8 a)
  | .hpcStatus a => 0x7A :: (eU8 a)
  | .faFeInTol => [0x7C]
  | .hpForcesInTol a => 0x7D :: (eBool a)
  | .reset => [0x80]
  | .pullTelemetry a => 0x81 :: (eU64 a)
  | .reportServerID _ _ _ _ => []
  | .reportServerStatus _ _ _ _ => []
  | .changeMode _ _ _ _ => []
  | .stepMotor _ _ _ _ => []
  | .electromechanicalForceAndStatus _ _ _ _ => []
  | .setBoostValveDCAGains _ _ _ _ => []
  | .readBoostValveDCAGains _ _ _ _ => []
  | .forceDemand _ _ _ _ => []
  | .pneumaticForceStatus _ _ _ _ => []
  | .setADCScanRate _ _ _ _ => []
  | .setADCOffsetSensitivity _ _ _ _ => []
  | .eraseApplication _ _ _ _ => []
  | .writeApplication _ _ _ _ => []
  | .verifyApplication _ _ _ _ => []
  | .resetApplication _ _ _ _ => []
  | .readCalibration _ _ _ _ => []
  | .readDCAPressure _ _ _ _ => []
  | .reportDCAID _ _ _ _ => []
  | .reportDCAStatus _ _ _ _ => []
  | .reportLVDT _ _ _ _ => []
  | .exceptionResponse _ _ _ _ _ => []

/-- What the block is given to run an instruction: a command, or a response frame's body (R117). -/
def encode : Instr → Input
  | .reportServerID s a p ts => .response s ts (a :: FnCode.code .reportServerID :: p)
  | .reportServerStatus s a p ts => .response s ts (a :: FnCode.code .reportServerStatus :: p)
  | .changeMode s a p ts => .response s ts (a :: FnCode.code .changeMode :: p)
  | .stepMotor s a p ts => .response s ts (a :: FnCode.code .stepMotor :: p)
  | .electromechanicalForceAndStatus s a p ts => .response s ts (a :: FnCode.code .electromechanicalForceAndStatus :: p)
  | .setBoostValveDCAGains s a p ts => .response s ts (a :: FnCode.code .setBoostValveDCAGains :: p)
  | .readBoostValveDCAGains s a p ts => .response s ts (a :: FnCode.code .readBoostValveDCAGains :: p)
  | .forceDemand s a p ts => .response s ts (a :: FnCode.code .forceDemand :: p)
  | .pneumaticForceStatus s a p ts => .response s ts (a :: FnCode.code .pneumaticForceStatus :: p)
  | .setADCScanRate s a p ts => .response s ts (a :: FnCode.code .setADCScanRate :: p)
  | .setADCOffsetSensitivity s a p ts => .response s ts (a :: FnCode.code .setADCOffsetSensitivity :: p)
  | .eraseApplication s a p ts => .response s ts (a :: FnCode.code .eraseApplication :: p)
  | .writeApplication s a p ts => .response s ts (a :: FnCode.code .writeApplication :: p)
  | .verifyApplication s a p ts => .response s ts (a :: FnCode.code .verifyApplication :: p)
  | .resetApplication s a p ts => .response s ts (a :: FnCode.code .resetApplication :: p)
  | .readCalibration s a p ts => .response s ts (a :: FnCode.code .readCalibration :: p)
  | .readDCAPressure s a p ts => .response s ts (a :: FnCode.code .readDCAPressure :: p)
  | .reportDCAID s a p ts => .response s ts (a :: FnCode.code .reportDCAID :: p)
  | .reportDCAStatus s a p ts => .response s ts (a :: FnCode.code .reportDCAStatus :: p)
  | .reportLVDT s a p ts => .response s ts (a :: FnCode.code .reportLVDT :: p)
  | .exceptionResponse s a f p ts => .response s ts (a :: exceptionByte f :: p)
  | .getU8 a b => .command (encodeCommand (.getU8 a b))
  | .getI8 a b => .command (encodeCommand (.getI8 a b))
  | .getU16 a b => .command (encodeCommand (.getU16 a b))
  | .getI16 a b => .command (encodeCommand (.getI16 a b))
  | .getU32 a b => .command (encodeCommand (.getU32 a b))
  | .getI32 a b => .command (encodeCommand (.getI32 a b))
  | .getU64 a b => .command (encodeCommand (.getU64 a b))
  | .getI64 a b => .command (encodeCommand (.getI64 a b))
  | .getF32 a b => .command (encodeCommand (.getF32 a b))
  | .getF64 a b => .command (encodeCommand (.getF64 a b))
  | .getStr a b => .command (encodeCommand (.getStr a b))
  | .setU8 a b c => .command (encodeCommand (.setU8 a b c))
  | .setI8 a b c => .command (encodeCommand (.setI8 a b c))
  | .setU16 a b c => .command (encodeCommand (.setU16 a b c))
  | .setI16 a b c => .command (encodeCommand (.setI16 a b c))
  | .setU32 a b c => .command (encodeCommand (.setU32 a b c))
  | .setI32 a b c => .command (encodeCommand (.setI32 a b c))
  | .setU64 a b c => .command (encodeCommand (.setU64 a b c))
  | .setI64 a b c => .command (encodeCommand (.setI64 a b c))
  | .setF32 a b c => .command (encodeCommand (.setF32 a b c))
  | .setF64 a b c => .command (encodeCommand (.setF64 a b c))
  | .setStr a b c => .command (encodeCommand (.setStr a b c))
  | .crc16 a => .command (encodeCommand (.crc16 a))
  | .startSubnet a => .command (encodeCommand (.startSubnet a))
  | .append a b c d => .command (encodeCommand (.append a b c d))
  | .endSubnet a => .command (encodeCommand (.endSubnet a))
  | .send a => .command (encodeCommand (.send a))
  | .waitIrq a b c => .command (encodeCommand (.waitIrq a b c))
  | .mapBuild => .command (encodeCommand (.mapBuild))
  | .parse a b => .command (encodeCommand (.parse a b))
  | .reconcile a => .command (encodeCommand (.reconcile a))
  | .validateCrc a b => .command (encodeCommand (.validateCrc a b))
  | .fcEnable a => .command (encodeCommand (.fcEnable a))
  | .fcDisable a => .command (encodeCommand (.fcDisable a))
  | .fcApply a b c d => .command (encodeCommand (.fcApply a b c d))
  | .fcZero a => .command (encodeCommand (.fcZero a))
  | .fcUpdate a => .command (encodeCommand (.fcUpdate a))
  | .updateApplied => .command (encodeCommand (.updateApplied))
  | .processApplied => .command (encodeCommand (.processApplied))
  | .notify a b c => .command (encodeCommand (.notify a b c))
  | .notifyIlcTimeout => .command (encodeCommand (.notifyIlcTimeout))
  | .notifyFaFollowingError a b c => .command (encodeCommand (.notifyFaFollowingError a b c))
  | .notifyHpMeasuredForce a b c => .command (encodeCommand (.notifyHpMeasuredForce a b c))
  | .notifyHpAirPressure a b c => .command (encodeCommand (.notifyHpAirPressure a b c))
  | .checkSafety a => .command (encodeCommand (.checkSafety a))
  | .clearError => .command (encodeCommand (.clearError))
  | .clearErrorCode => .command (encodeCommand (.clearErrorCode))
  | .settingsLoad a => .command (encodeCommand (.settingsLoad a))
  | .raiseStart a b => .command (encodeCommand (.raiseStart a b))
  | .raiseRunloop a => .command (encodeCommand (.raiseRunloop a))
  | .raiseCheckComplete a => .command (encodeCommand (.raiseCheckComplete a))
  | .raiseComplete => .command (encodeCommand (.raiseComplete))
  | .checkTimeout a => .command (encodeCommand (.checkTimeout a))
  | .timeout => .command (encodeCommand (.timeout))
  | .pause a => .command (encodeCommand (.pause a))
  | .resume a => .command (encodeCommand (.resume a))
  | .rlReset => .command (encodeCommand (.rlReset))
  | .lowerStart a => .command (encodeCommand (.lowerStart a))
  | .lowerRunloop => .command (encodeCommand (.lowerRunloop))
  | .lowerCheckComplete => .command (encodeCommand (.lowerCheckComplete))
  | .lowerComplete => .command (encodeCommand (.lowerComplete))
  | .spInc => .command (encodeCommand (.spInc))
  | .spDec => .command (encodeCommand (.spDec))
  | .spZero => .command (encodeCommand (.spZero))
  | .spFill => .command (encodeCommand (.spFill))
  | .spFilled => .command (encodeCommand (.spFilled))
  | .spZeroed => .command (encodeCommand (.spZeroed))
  | .hpcSample a b => .command (encodeCommand (.hpcSample a b))
  | .hpcReset a => .command (encodeCommand (.hpcReset a))
  | .hpcStatus a => .command (encodeCommand (.hpcStatus a))
  | .faFeInTol => .command (encodeCommand (.faFeInTol))
  | .hpForcesInTol a => .command (encodeCommand (.hpForcesInTol a))
  | .reset => .command (encodeCommand (.reset))
  | .pullTelemetry a => .command (encodeCommand (.pullTelemetry a))

/-! ## The opcode table's words -/

/-- The bytes of a table word: bit 0 is the least significant bit of the first byte. -/
def tableBytes : Nat → Nat → List Byte
  | 0, _ => []
  | n + 1, w => BitVec.ofNat 8 w :: tableBytes n (w / 256)

/-- More zero bytes than the longest record of zeros has (that of `SETTINGS_LOAD`). -/
def recordZeros : List Byte := List.replicate 1024 0

/-- A table word as an input of the block. The table holds two code spaces of one byte each, the
operation codes (R140) and the function bytes (R126, R127), which overlap: a byte that is an
operation code is a command, with zeros for its operands; any other byte is the function byte of a
response frame at address 0 with an empty payload, or with the exception code 0 where bit 7 is set
(notes/assumptions/2.md). -/
def tableInput (nbits w : Nat) : Input :=
  match tableBytes (nbits / 8) w with
  | [] => .command []
  | b :: rest =>
    match operandReader b with
    | some _ => .command (b :: rest ++ recordZeros)
    | none =>
      if 128 ≤ b.toNat then .response 0 0 (0 :: b :: 0 :: rest) else .response 0 0 (0 :: b :: rest)

/-- The instruction the decoder reads from a word of the opcode table. -/
def decodeTableWord (nbits w : Nat) : Option Instr :=
  match decodeInput (tableInput nbits w) with
  | .ok i => some i
  | .error _ => none

end Sys2Proof
end

