-- ==== Sys2Proof/Machine/Banks.lean ====
section
/-! DEFINITION. Reading and writing the banks of the block: one value for each subnet, component or
hardpoint (spec/10_state.md R20, spec/20_memory.md R80), and the lists of the data-index spaces. -/

namespace Sys2Proof

/-- The subnet a number names: 1 to 5 and no other (R89). -/
def Subnet.ofByte (b : Byte) : Option Subnet :=
  match b.toNat with
  | 1 => some .s1
  | 2 => some .s2
  | 3 => some .s3
  | 4 => some .s4
  | 5 => some .s5
  | _ => none

/-- A subnet's number (R89). -/
def Subnet.number : Subnet → Byte
  | .s1 => 1
  | .s2 => 2
  | .s3 => 3
  | .s4 => 4
  | .s5 => 5

def PerSubnet.get {α : Type} (p : PerSubnet α) : Subnet → α
  | .s1 => p.s1
  | .s2 => p.s2
  | .s3 => p.s3
  | .s4 => p.s4
  | .s5 => p.s5

def PerSubnet.set {α : Type} (p : PerSubnet α) (s : Subnet) (v : α) : PerSubnet α :=
  match s with
  | .s1 => { p with s1 := v }
  | .s2 => { p with s2 := v }
  | .s3 => { p with s3 := v }
  | .s4 => { p with s4 := v }
  | .s5 => { p with s5 := v }

/-- The same value for every subnet. -/
def PerSubnet.pure {α : Type} (v : α) : PerSubnet α := ⟨v, v, v, v, v⟩

/-- The values in subnet order. -/
def PerSubnet.toList {α : Type} (p : PerSubnet α) : List α := [p.s1, p.s2, p.s3, p.s4, p.s5]

/-- The components in their order of update and summation (R261). -/
def Comp.all : List Comp :=
  [.static, .elevation, .azimuth, .velocity, .acceleration, .thermal, .balance, .activeOptic, .offset]

/-- A component's number (R42). -/
def Comp.number : Comp → Nat
  | .static => 0
  | .elevation => 1
  | .azimuth => 2
  | .velocity => 3
  | .acceleration => 4
  | .thermal => 5
  | .balance => 6
  | .activeOptic => 7
  | .offset => 8

/-- The component of an operand `c : 0..8`; none for a greater number. -/
def Comp.ofByte (b : Byte) : Option Comp :=
  match b.toNat with
  | 0 => some .static
  | 1 => some .elevation
  | 2 => some .azimuth
  | 3 => some .velocity
  | 4 => some .acceleration
  | 5 => some .thermal
  | 6 => some .balance
  | 7 => some .activeOptic
  | 8 => some .offset
  | _ => none

def PerComp.get {α : Type} (p : PerComp α) : Comp → α
  | .static => p.static
  | .elevation => p.elevation
  | .azimuth => p.azimuth
  | .velocity => p.velocity
  | .acceleration => p.acceleration
  | .thermal => p.thermal
  | .balance => p.balance
  | .activeOptic => p.activeOptic
  | .offset => p.offset

def PerComp.set {α : Type} (p : PerComp α) (c : Comp) (v : α) : PerComp α :=
  match c with
  | .static => { p with static := v }
  | .elevation => { p with elevation := v }
  | .azimuth => { p with azimuth := v }
  | .velocity => { p with velocity := v }
  | .acceleration => { p with acceleration := v }
  | .thermal => { p with thermal := v }
  | .balance => { p with balance := v }
  | .activeOptic => { p with activeOptic := v }
  | .offset => { p with offset := v }

def PerComp.pure {α : Type} (v : α) : PerComp α := ⟨v, v, v, v, v, v, v, v, v⟩

/-- The hardpoints in ascending order. -/
def Hp.all : List Hp := [.h0, .h1, .h2, .h3, .h4, .h5]

def Hp.number : Hp → Nat
  | .h0 => 0
  | .h1 => 1
  | .h2 => 2
  | .h3 => 3
  | .h4 => 4
  | .h5 => 5

/-- The hardpoint of an index; none for 6 and above. -/
def Hp.ofIndex (n : Nat) : Option Hp :=
  match n with
  | 0 => some .h0
  | 1 => some .h1
  | 2 => some .h2
  | 3 => some .h3
  | 4 => some .h4
  | 5 => some .h5
  | _ => none

/-- The hardpoint of an operand `h : 0..5`; none for a greater number. -/
def Hp.ofByte (b : Byte) : Option Hp := Hp.ofIndex b.toNat

def PerHp.get {α : Type} (p : PerHp α) : Hp → α
  | .h0 => p.h0
  | .h1 => p.h1
  | .h2 => p.h2
  | .h3 => p.h3
  | .h4 => p.h4
  | .h5 => p.h5

def PerHp.set {α : Type} (p : PerHp α) (h : Hp) (v : α) : PerHp α :=
  match h with
  | .h0 => { p with h0 := v }
  | .h1 => { p with h1 := v }
  | .h2 => { p with h2 := v }
  | .h3 => { p with h3 := v }
  | .h4 => { p with h4 := v }
  | .h5 => { p with h5 := v }

def PerHp.pure {α : Type} (v : α) : PerHp α := ⟨v, v, v, v, v, v⟩

/-- `f` applied to every hardpoint's value. -/
def PerHp.map {α β : Type} (f : α → β) (p : PerHp α) : PerHp β :=
  ⟨f p.h0, f p.h1, f p.h2, f p.h3, f p.h4, f p.h5⟩

/-- Whether `f` holds of every hardpoint's value. -/
def PerHp.all {α : Type} (p : PerHp α) (f : α → Bool) : Bool :=
  f p.h0 && f p.h1 && f p.h2 && f p.h3 && f p.h4 && f p.h5

/-- Element `i` of a list changed by `f`; the list itself where it has no element `i`. -/
def modifyAt {α : Type} (l : List α) (i : Nat) (f : α → α) : List α :=
  match l, i with
  | [], _ => []
  | a :: r, 0 => f a :: r
  | a :: r, i + 1 => a :: modifyAt r i f

/-- `f` applied to the three arrays of a triple, element by element. -/
def Tri.map {α β : Type} (f : α → β) (t : Tri α) : Tri β := ⟨t.x.map f, t.y.map f, t.z.map f⟩

/-- `f` applied to the arrays of two triples, element by element. -/
def Tri.zipWith {α β γ : Type} (f : α → β → γ) (s : Tri α) (t : Tri β) : Tri γ :=
  ⟨s.x.zipWith f t.x, s.y.zipWith f t.y, s.z.zipWith f t.z⟩

/-- Whether `f` holds of every element of the three arrays. -/
def Tri.all {α : Type} (t : Tri α) (f : α → Bool) : Bool := t.x.all f && t.y.all f && t.z.all f

/-- Whether `f` holds of some element of the three arrays. -/
def Tri.any {α : Type} (t : Tri α) (f : α → Bool) : Bool := t.x.any f || t.y.any f || t.z.any f

/-- A triple shaped as R43 says, every element `v`. -/
def Tri.fill {α : Type} (c : PlantCfg) (v : α) : Tri α :=
  ⟨List.replicate c.nX v, List.replicate c.nY v, List.replicate c.nFA v⟩

end Sys2Proof
end

