-- ==== Sys2Proof/Machine/Crc.lean ====
section
/-! DEFINITION. CRC-16/MODBUS (spec/30_encoding.md R120) and the frame's CRC field (R122). -/

namespace Sys2Proof

/-- One of the eight shifts of R120. -/
def crcShift (c : BitVec 16) : BitVec 16 :=
  if c.getLsbD 0 then (c >>> 1) ^^^ 0xA001 else c >>> 1

/-- `n` shifts. -/
def crcShifts : Nat → BitVec 16 → BitVec 16
  | 0, c => c
  | n + 1, c => crcShifts n (crcShift c)

/-- One byte of R120. -/
def crcByte (c : BitVec 16) (b : Byte) : BitVec 16 := crcShifts 8 (c ^^^ BitVec.zeroExtend 16 b)

/-- The CRC register after some bytes, from an initial value. -/
def crcFrom (c : BitVec 16) (bs : List Byte) : BitVec 16 := bs.foldl crcByte c

/-- `crc16` (R120): initial value `0xFFFF`, no final xor. -/
def crc16 (bs : List Byte) : BitVec 16 := crcFrom 0xFFFF bs

/-- The two bytes of the CRC field, low byte first (R122). -/
def crcField (c : BitVec 16) : List Byte := [c.extractLsb' 0 8, c.extractLsb' 8 8]

end Sys2Proof
end

