-- ==== Sys2Proof/Machine/Float.lean ====
section
/-! DEFINITION. IEEE-754 binary32 and binary64, round to nearest even, each operation rounded once
(spec/43_force_pipeline.md R267; spec/00_scope.md R10). A finite value is a whole number of UNITS,
the least subnormal (2^-149, 2^-1074); an operation is computed exactly as a quotient of naturals and
rounded once by `roundMag`. The NaN an invalid operation answers is a quiet NaN whose sign and
payload are free (notes/assumptions/6.md). -/

namespace Sys2Proof

/-- A binary format: bits of the fraction and of the exponent. -/
structure Fmt where
  frac : Nat
  expo : Nat
  deriving DecidableEq, Repr

def b32 : Fmt := ⟨23, 8⟩
def b64 : Fmt := ⟨52, 11⟩

/-- The unit is `2 ^ -scale`: 149 for binary32, 1074 for binary64. -/
def Fmt.scale (f : Fmt) : Nat := 2 ^ (f.expo - 1) + f.frac - 2

/-- The bit pattern of infinity, without the sign. -/
def Fmt.inf (f : Fmt) : Nat := (2 ^ f.expo - 1) * 2 ^ f.frac

/-- The weight of the sign bit. -/
def Fmt.signBit (f : Fmt) : Nat := 2 ^ (f.expo + f.frac)

/-- A bit pattern without its sign. -/
def Fmt.mag (f : Fmt) (v : Nat) : Nat := v % f.signBit

def Fmt.neg (f : Fmt) (v : Nat) : Bool := decide (f.signBit ≤ v)

def Fmt.isNaN (f : Fmt) (v : Nat) : Bool := decide (f.inf < f.mag v)

def Fmt.isInf (f : Fmt) (v : Nat) : Bool := decide (f.mag v = f.inf)

def Fmt.isFinite (f : Fmt) (v : Nat) : Bool := decide (f.mag v < f.inf)

/-- The magnitude of a finite value in units. -/
def Fmt.units (f : Fmt) (v : Nat) : Nat :=
  let e := f.mag v / 2 ^ f.frac
  let m := f.mag v % 2 ^ f.frac
  if e = 0 then m else (2 ^ f.frac + m) * 2 ^ (e - 1)

/-- The nearest natural to `num / den`, a tie going to the even one. -/
def roundEven (num den : Nat) : Nat :=
  let q := num / den
  let r := num % den
  if 2 * r < den then q else if den < 2 * r then q + 1 else q + q % 2

/-- The bit pattern, without the sign, of the value nearest to `num / den` units; infinity where it
overflows. -/
def Fmt.roundMag (f : Fmt) (num den : Nat) : Nat :=
  let sh := Nat.log2 (num / den) - f.frac
  min (sh * 2 ^ f.frac + roundEven num (den * 2 ^ sh)) f.inf

/-- A magnitude with a sign. -/
def Fmt.withSign (f : Fmt) (neg : Bool) (m : Nat) : Nat := if neg then f.signBit + m else m

/-- The value in units, with its sign. -/
def Fmt.value (f : Fmt) (v : Nat) : Int := if f.neg v then -(f.units v : Int) else (f.units v : Int)

/-- A sum, `nan` being the NaN it answers where it is invalid. An exact zero is +0 unless both operands
are −0. -/
def Fmt.add (f : Fmt) (nan a b : Nat) : Nat :=
  if f.isNaN a || f.isNaN b then nan
  else if f.isInf a then (if f.isInf b && f.neg a != f.neg b then nan else a)
  else if f.isInf b then b
  else
    let k := f.value a + f.value b
    if k = 0 then f.withSign (f.neg a && f.neg b) 0
    else f.withSign (decide (k < 0)) (f.roundMag k.natAbs 1)

/-- The operand with its sign turned. -/
def Fmt.negate (f : Fmt) (v : Nat) : Nat := f.withSign (!f.neg v) (f.mag v)

def Fmt.sub (f : Fmt) (nan a b : Nat) : Nat :=
  if f.isNaN a || f.isNaN b then nan else f.add nan a (f.negate b)

def Fmt.mul (f : Fmt) (nan a b : Nat) : Nat :=
  let neg := f.neg a != f.neg b
  if f.isNaN a || f.isNaN b then nan
  else if f.isInf a || f.isInf b then
    (if f.mag a = 0 || f.mag b = 0 then nan else f.withSign neg f.inf)
  else f.withSign neg (f.roundMag (f.units a * f.units b) (2 ^ f.scale))

def Fmt.div (f : Fmt) (nan a b : Nat) : Nat :=
  let neg := f.neg a != f.neg b
  if f.isNaN a || f.isNaN b then nan
  else if f.isInf a then (if f.isInf b then nan else f.withSign neg f.inf)
  else if f.isInf b then f.withSign neg 0
  else if f.mag b = 0 then (if f.mag a = 0 then nan else f.withSign neg f.inf)
  else f.withSign neg (f.roundMag (f.units a * 2 ^ f.scale) (f.units b))

/-- The integer square root by its bits, from bit `k - 1` down, `r` being the root so far. -/
def isqrtFrom (n : Nat) : Nat → Nat → Nat
  | 0, r => r
  | k + 1, r =>
    let t := r + 2 ^ k
    isqrtFrom n k (if t * t ≤ n then t else r)

/-- The integer square root, rounded down. -/
def isqrt (n : Nat) : Nat := isqrtFrom n (Nat.log2 n / 2 + 1) 0

/-- A square root, correctly rounded: the root of `units · 2^scale` lies between `r` and `r + 1`, and a
value strictly between is represented by `r + 1/2`, which rounds as it does. -/
def Fmt.sqrt (f : Fmt) (nan v : Nat) : Nat :=
  if f.isNaN v then nan
  else if f.mag v = 0 then v
  else if f.neg v then nan
  else if f.isInf v then v
  else
    let n := f.units v * 2 ^ f.scale
    let r := isqrt n
    f.roundMag (2 * r + (if r * r = n then 0 else 1)) 2

/-- A key that orders the non-NaN values as IEEE-754 does, the two zeros equal. -/
def Fmt.key (f : Fmt) (v : Nat) : Int := if f.neg v then -(f.mag v : Int) else (f.mag v : Int)

/-- `a < b`; false where an operand is NaN. -/
def Fmt.lt (f : Fmt) (a b : Nat) : Bool :=
  !f.isNaN a && !f.isNaN b && decide (f.key a < f.key b)

/-- `a ≤ b`; false where an operand is NaN. -/
def Fmt.le (f : Fmt) (a b : Nat) : Bool :=
  !f.isNaN a && !f.isNaN b && decide (f.key a ≤ f.key b)

/-! ## binary32 -/

/-- The quiet NaN with the free sign and payload. -/
def nan32Of (v : BitVec 23) : Nat :=
  (if v.msb then 2 ^ 31 else 0) + 0x7FC00000 + v.toNat % 2 ^ 22

def f32Add (a b : F32) : F32 :=
  BitVec.ofNat 32 (b32.add (nan32Of (Config.nan32 .add a b)) a.toNat b.toNat)
def f32Sub (a b : F32) : F32 :=
  BitVec.ofNat 32 (b32.sub (nan32Of (Config.nan32 .sub a b)) a.toNat b.toNat)
def f32Mul (a b : F32) : F32 :=
  BitVec.ofNat 32 (b32.mul (nan32Of (Config.nan32 .mul a b)) a.toNat b.toNat)
def f32Div (a b : F32) : F32 :=
  BitVec.ofNat 32 (b32.div (nan32Of (Config.nan32 .div a b)) a.toNat b.toNat)
def f32Sqrt (a : F32) : F32 :=
  BitVec.ofNat 32 (b32.sqrt (nan32Of (Config.nan32 .sqrt a a)) a.toNat)

/-- `f32(n)`, the natural rounded to binary32 (R10). -/
def f32OfNat (n : Nat) : F32 := BitVec.ofNat 32 (b32.roundMag (n * 2 ^ b32.scale) 1)

/-- `|v|` clears the sign bit (R267). -/
def f32Abs (a : F32) : F32 := BitVec.ofNat 32 (b32.mag a.toNat)

def f32Neg (a : F32) : F32 := BitVec.ofNat 32 (b32.negate a.toNat)

def f32Lt (a b : F32) : Bool := b32.lt a.toNat b.toNat
def f32Le (a b : F32) : Bool := b32.le a.toNat b.toNat
def f32IsNaN (a : F32) : Bool := b32.isNaN a.toNat
def f32IsFinite (a : F32) : Bool := b32.isFinite a.toNat

/-- The IEEE comparison `a ≠ b`, true where an operand is NaN, the two zeros equal. -/
def f32Ne (a b : F32) : Bool := !(f32Le a b && f32Le b a)

/-- `min`; either operand where they are unordered or zeros of different sign (notes/assumptions/7.md). -/
def f32Min (a b : F32) : F32 :=
  if f32Lt b a then b
  else if f32Lt a b || a == b then a
  else if Config.pick32 a b then b else a

/-- `max`, as `f32Min`. -/
def f32Max (a b : F32) : F32 :=
  if f32Lt a b then b
  else if f32Lt b a || a == b then a
  else if Config.pick32 a b then b else a

/-- The coercion into `[lo, hi]` (R266). -/
def f32Clamp (v lo hi : F32) : F32 := if f32Lt v lo then lo else if f32Lt hi v then hi else v

/-- The bounded move of R266: by at most `r`, landing exactly on the target when within `r`. -/
def f32Step (cur tgt r : F32) : F32 :=
  let d := f32Sub tgt cur
  if f32Le (f32Abs d) r then tgt
  else if f32Lt 0 d then f32Add cur r
  else f32Sub cur r

/-! ## binary64 -/

/-- The quiet NaN with the free sign and payload. -/
def nan64Of (v : BitVec 52) : Nat :=
  (if v.msb then 2 ^ 63 else 0) + 0x7FF8000000000000 + v.toNat % 2 ^ 51

def f64Add (a b : F64) : F64 :=
  BitVec.ofNat 64 (b64.add (nan64Of (Config.nan64 .add a b)) a.toNat b.toNat)
def f64Sub (a b : F64) : F64 :=
  BitVec.ofNat 64 (b64.sub (nan64Of (Config.nan64 .sub a b)) a.toNat b.toNat)

def f64Lt (a b : F64) : Bool := b64.lt a.toNat b.toNat
def f64Le (a b : F64) : Bool := b64.le a.toNat b.toNat
def f64IsNaN (a : F64) : Bool := b64.isNaN a.toNat
def f64IsFinite (a : F64) : Bool := b64.isFinite a.toNat

def f64Min (a b : F64) : F64 :=
  if f64Lt b a then b
  else if f64Lt a b || a == b then a
  else if Config.pick64 a b then b else a

def f64Max (a b : F64) : F64 :=
  if f64Lt a b then b
  else if f64Lt b a || a == b then a
  else if Config.pick64 a b then b else a

/-- The bits of 100.0. -/
def f64Hundred : F64 := 0x4059000000000000

/-- The NaN that `DEADLINE <- NaN` writes (R58); which NaN is not observable, and the model writes the
default quiet one (notes/assumptions/8.md). -/
def f64NaN : F64 := 0x7FF8000000000000

end Sys2Proof
end

