-- ==== Sys2Proof/Machine/State.lean ====
section
/-! DEFINITION. The state of the block (spec/10_state.md), by its four units, with the sampled
elevation, the configuration, the event log and the ports; its reset (R70); and the reasons a step can
stop. State is plain data. -/

namespace Sys2Proof.Machine

/-! ## FRAME -/

/-- One cell of the ILC map: an address that some actuator owns, with its entry (R28). -/
structure MapCell where
  address : Nat
  entry : IlcEntry
  deriving DecidableEq, Repr

/-- `TXBUF[s]`, `TXSTART[s]`, `TXOPEN[s]` (R29). `cells` are the cells written, so `TXLEN[s]` is their
number; what lies beyond is never read. -/
structure TxBatch where
  cells : List Cell
  start : Nat
  opened : Bool
  deriving DecidableEq, Repr

/-- `TXLEN[s]` (R29). -/
def TxBatch.len (b : TxBatch) : Nat := b.cells.length

/-- An entry of `AFS`, the source's ActuatorForceState (R32). -/
structure ActuatorForce where
  primary : F32
  secondary : F32
  x : F32
  y : F32
  z : F32
  deriving DecidableEq, Repr

/-- The cause flags of a warning, in register order (R35, R382). -/
inductive Cause where
  | responseTimeout | invalidCRC | illegalFunction | illegalDataValue | invalidLength
  | unknownSubnet | unknownAddress | unknownFunction | unknownProblem
  deriving DecidableEq, Repr

/-- `ILCWARN`, a flat structure of Boolean fields (R35). -/
structure IlcWarn where
  timestamp : U64
  actuatorId : I32
  responseTimeout : Bool
  invalidCRC : Bool
  illegalFunction : Bool
  illegalDataValue : Bool
  invalidLength : Bool
  unknownSubnet : Bool
  unknownAddress : Bool
  unknownFunction : Bool
  unknownProblem : Bool
  anyWarning : Bool
  deriving DecidableEq, Repr

/-- The state of FRAME. `ilcMap` holds the owned addresses of each subnet, strictly rising; an address
not listed is unmapped (R28). `rx` holds the valid words, so `RXLEN[s]` is their number (R30). -/
structure FrameUnit where
  ilcMap : PerSubnet (List MapCell)
  tx : PerSubnet TxBatch
  rx : PerSubnet (List Word16)
  rxts : PerSubnet U64
  afs : List ActuatorForce
  hps : PerHp F32
  expectFa : List I32
  expectHp : PerHp I32
  expectHm : PerHp I32
  ilcWarn : IlcWarn
  anyTimeout : Bool
  deriving DecidableEq, Repr

/-! ## FORCE -/

/-- The state of a component (R42), coded 0 to 3 (`CompState.code`). -/
inductive CompState where
  | initialising | enabled | disabling | disabled
  deriving DecidableEq, Repr

/-- A force component (R42, R43, R44). -/
structure Component where
  state : CompState
  current : Tri F32
  target : Tri F32
  offset : Tri F32
  preclipped : Tri F32
  applied : Tri F32
  clipWarn : Tri Bool
  anyClip : Bool
  deriving DecidableEq, Repr

/-- `FIN`, the final stage (R45). -/
structure FinalStage where
  preclipped : Tri F32
  applied : Tri F32
  clipWarn : Tri Bool
  anyClip : Bool
  primarySet : List F32
  secondarySet : List F32
  deriving DecidableEq, Repr

/-- `RES`, the resultant (R46). -/
structure Resultant where
  fx : F32
  fy : F32
  fz : F32
  mx : F32
  my : F32
  mz : F32
  magnitude : F32
  deriving DecidableEq, Repr

structure ForceUnit where
  fc : PerComp Component
  fin : FinalStage
  res : Resultant
  momentWarnCnt : Nat
  deriving DecidableEq, Repr

/-! ## SAFETY -/

/-- The error code register, a (code, report) pair (R50). -/
structure ErrorReg where
  code : FaultCode
  report : List Byte
  deriving DecidableEq, Repr

/-- The state of SAFETY (R50 to R53). A window lists its bits oldest first. -/
structure SafetyUnit where
  err : ErrorReg
  errPub : ErrorReg
  winIlc : List Bool
  winFe : List (List Bool)
  winHpf : PerHp (List Bool)
  winHpa : PerHp (List Bool)
  trig : List Bool
  deriving DecidableEq, Repr

/-! ## RAISE -/

/-- `RSTATE` (R56), coded 0 to 3 (`RaiseState.code`). -/
inductive RaiseState where
  | idle | running | paused | complete
  deriving DecidableEq, Repr

/-- `RDIR` (R56), coded 0 and 1 (`RaiseDir.code`). -/
inductive RaiseDir where
  | raise | lower
  deriving DecidableEq, Repr

/-- `HPC[h]`, an in-range counter (R60). -/
structure InRangeCounter where
  lo : F32
  hi : F32
  run : Nat
  total : Nat
  deriving DecidableEq, Repr

/-- The status of an in-range counter (R367), coded 0, 1, 2 (`HpcStatus.code`). -/
inductive HpcStatus where
  | pending | inRange | timedOut
  deriving DecidableEq, Repr

/-- The state of RAISE (R56 to R61). -/
structure RaiseUnit where
  rstate : RaiseState
  rdir : RaiseDir
  timedOut : Bool
  pct : F64
  deadline : F64
  remain : F64
  segStart : F64
  bypass : Bool
  stalled : Bool
  waitAirLogged : Bool
  hpc : PerHp InRangeCounter
  chase : Bool
  moveRef : Nat
  deriving DecidableEq, Repr

/-! ## Events and responses -/

/-- The events of `LOG` (R40). -/
inductive Event where
  | warning (w : IlcWarn)
  | decoded (s address f : Byte) (update : List SlotWrite) (ts : U64)
  | clip (stage : Nat) (flags : Tri Bool)
  | errorCode (code : FaultCode) (report : List Byte)
  | raiseStall
  | raiseNote (text : List Byte)
  deriving DecidableEq, Repr

/-- The operation statuses (R381), coded 0 to 7 (`Status.code`). -/
inductive Status where
  | ok | decodeError | encodeError | buildOverflow | badState | badOperand | notConfigured | badConfig
  deriving DecidableEq, Repr

/-- The value a codec read answers (R150): an unsigned or a signed integer, the bits of a float, a
string's bytes. -/
inductive CodecValue where
  | unsigned (v : Nat)
  | signed (v : Int)
  | f32 (v : F32)
  | f64 (v : F64)
  | str (v : List Byte)
  deriving DecidableEq, Repr

/-- The verdict of `VALIDATE_CRC` (R213). -/
inductive Verdict where
  | good | badCrc | tooShort | truncated
  deriving DecidableEq, Repr

/-- The result data of an operation (R25, the "Result" of its rule). -/
inductive RspData where
  | none
  | read (v : CodecValue) (cur : Nat)
  | written (buf : List Cell) (cur : Nat)
  /-- A codec error: the position and width of `DecodeError(pos, n)`/`EncodeError(pos, n)` where the
  rule gives them (R84, R85, R381), and the buffer and cursor, unchanged (R151). -/
  | codecError (info : Option (Nat × Nat)) (buf : List Cell) (cur : Nat)
  | crc (v : Word16)
  | timedOut (b : Bool)
  | frames (n : Nat)
  | verdict (v : Verdict) (body : List Byte) (next : Nat)
  | hostState (next : Byte)
  | bool (b : Bool)
  | hpcStatus (v : HpcStatus)
  deriving DecidableEq, Repr

/-- A response on the response port (R25). -/
structure Response where
  status : Status
  data : RspData
  deriving DecidableEq, Repr

/-! ## The state -/

/-- The state of the block and of its ports. -/
structure State where
  frame : FrameUnit
  force : ForceUnit
  safety : SafetyUnit
  raise : RaiseUnit
  /-- `ELEV` and `ELEV_VALID` (R62). -/
  elev : F64
  elevValid : Bool
  /-- `CFG`, `CFG_LOADED`, `MAP_BUILT` (R64). -/
  cfg : Cfg
  cfgLoaded : Bool
  mapBuilt : Bool
  /-- `LOG`, oldest event first (R40). -/
  log : List Event
  /-- The response port: the last response given, none since reset (R25). -/
  rsp : Option Response
  /-- The words put on `tx[s]`, oldest first (R26): the transport's, not the block's. -/
  txOut : PerSubnet (List Word16)
  /-- What the outside has presented and the block has not yet taken, the next one first: the model's
  own field (notes/assumptions/3.md). -/
  inputs : List Input
  deriving DecidableEq, Repr

/-! ## Reset values (R70) -/

/-- An unmapped entry (R28). -/
def unmapped : IlcEntry := ⟨-1, -1, -1, -1, -1, .unknown⟩

def IlcWarn.init : IlcWarn :=
  ⟨0, -1, false, false, false, false, false, false, false, false, false, false⟩

def ActuatorForce.init : ActuatorForce := ⟨0, 0, 0, 0, 0⟩

def InRangeCounter.init : InRangeCounter := ⟨0, 0, 0, 0⟩

def ErrorReg.init : ErrorReg := ⟨.noFault, []⟩

def TxBatch.init : TxBatch := ⟨[], 0, false⟩

def FrameUnit.init (c : Cfg) : FrameUnit where
  ilcMap := PerSubnet.pure []
  tx := PerSubnet.pure TxBatch.init
  rx := PerSubnet.pure []
  rxts := PerSubnet.pure 0
  afs := List.replicate c.plant.nFA ActuatorForce.init
  hps := PerHp.pure 0
  expectFa := List.replicate c.plant.nFA 0
  expectHp := PerHp.pure 0
  expectHm := PerHp.pure 0
  ilcWarn := IlcWarn.init
  anyTimeout := false

def Component.init (c : Cfg) : Component where
  state := .initialising
  current := Tri.fill c.plant 0
  target := Tri.fill c.plant 0
  offset := Tri.fill c.plant 0
  preclipped := Tri.fill c.plant 0
  applied := Tri.fill c.plant 0
  clipWarn := Tri.fill c.plant false
  anyClip := false

def FinalStage.init (c : Cfg) : FinalStage where
  preclipped := Tri.fill c.plant 0
  applied := Tri.fill c.plant 0
  clipWarn := Tri.fill c.plant false
  anyClip := false
  primarySet := List.replicate c.plant.nFA 0
  secondarySet := List.replicate c.plant.nFA 0

def ForceUnit.init (c : Cfg) : ForceUnit where
  fc := PerComp.pure (Component.init c)
  fin := FinalStage.init c
  res := ⟨0, 0, 0, 0, 0, 0, 0⟩
  momentWarnCnt := 0

def SafetyUnit.init (c : Cfg) : SafetyUnit where
  err := ErrorReg.init
  errPub := ErrorReg.init
  winIlc := List.replicate c.safety.winPeriod.ilc false
  winFe := List.replicate c.plant.nFA (List.replicate c.safety.winPeriod.fe false)
  winHpf := PerHp.pure (List.replicate c.safety.winPeriod.hpf false)
  winHpa := PerHp.pure (List.replicate c.safety.winPeriod.hpa false)
  trig := List.replicate c.safety.nTrig false

def RaiseUnit.init : RaiseUnit where
  rstate := .idle
  rdir := .raise
  timedOut := false
  pct := 0
  deadline := f64NaN
  remain := 0
  segStart := 0
  bypass := false
  stalled := false
  waitAirLogged := false
  hpc := PerHp.pure InRangeCounter.init
  chase := false
  moveRef := 0

/-- The contents of `CFG` at reset, which R64 leaves unspecified and no operation reads before
`SETTINGS_LOAD` (R16): every field zero or empty (notes/assumptions/4.md). -/
def cfgAtReset : Cfg where
  plant := ⟨0, 0, 0, [], [], [], [], PerSubnet.pure []⟩
  tables := .openSet 0
  frame := ⟨[], ⟨[], 0, 0, 0, [], 0⟩, .little, [], false, 0, 0, 0⟩
  force := ⟨PerComp.pure ⟨⟨[], [], []⟩, ⟨[], [], []⟩⟩, ⟨⟨[], [], []⟩, ⟨[], [], []⟩⟩, PerComp.pure 0, 0, [],
    ⟨0, 0, 0⟩, ⟨0, 0, 0⟩, 0, [], [], 0, 0, 0, 0, 0⟩
  safety := ⟨[], ⟨0, 0, 0, 0⟩, ⟨0, 0, 0, 0⟩, 0, 0⟩
  raise := ⟨0, 0, 0, 0, 0, 0, ⟨0, 0⟩, ⟨0, 0⟩, 0, 0, 0⟩

/-- The machine right after reset (R70, R420, R421). The arrays that the configuration sizes have the
size zero of `cfgAtReset` until `SETTINGS_LOAD` (notes/assumptions/4.md). -/
def State.reset : State where
  frame := FrameUnit.init cfgAtReset
  force := ForceUnit.init cfgAtReset
  safety := SafetyUnit.init cfgAtReset
  raise := RaiseUnit.init
  elev := 0
  elevValid := false
  cfg := cfgAtReset
  cfgLoaded := false
  mapBuilt := false
  log := []
  rsp := none
  txOut := PerSubnet.pure []
  inputs := []

/-! ## Why a step stops -/

/-- The faults. The spec has none that stops the block (R401). -/
inductive Fault where
  /-- Raised by `step` on a command without an operation code. R24 gives every command a `cmd_op`, so a
  host that keeps to the port never raises it. Safe. -/
  | noOperationCode
  deriving DecidableEq, Repr

/-- The refusals. -/
inductive Refusal where
  /-- Raised by `exec` on an instruction whose meaning is not written. Safe. -/
  | notModelled (mnemonic : String)
  /-- Raised by `step` on a command whose bytes are not the record of its operands. R24 gives the
  operands as a typed record, so a host that keeps to the port never raises it. Safe. -/
  | malformedRecord (op : Byte)
  deriving DecidableEq, Repr

end Sys2Proof.Machine
end

