-- ==== Sys2Proof/Machine/Flags.lean ====
section
/-! DEFINITION. Every flag computation of the block: the warning register (spec/10_state.md R35, R40),
the clipping flags (spec/43_force_pipeline.md R274, R281), the sliding windows (spec/44_safety.md R314)
and the roll-ups (spec/60_exceptions.md R402). -/

namespace Sys2Proof.Machine

/-- All nine cause flags false. -/
def IlcWarn.clearCauses (w : IlcWarn) : IlcWarn :=
  ⟨w.timestamp, w.actuatorId, false, false, false, false, false, false, false, false, false, w.anyWarning⟩

/-- One cause flag true. -/
def IlcWarn.setCause (w : IlcWarn) : Cause → IlcWarn
  | .responseTimeout => { w with responseTimeout := true }
  | .invalidCRC => { w with invalidCRC := true }
  | .illegalFunction => { w with illegalFunction := true }
  | .illegalDataValue => { w with illegalDataValue := true }
  | .invalidLength => { w with invalidLength := true }
  | .unknownSubnet => { w with unknownSubnet := true }
  | .unknownAddress => { w with unknownAddress := true }
  | .unknownFunction => { w with unknownFunction := true }
  | .unknownProblem => { w with unknownProblem := true }

/-- The nine cause flags, in register order. -/
def IlcWarn.causes (w : IlcWarn) : List Bool :=
  [w.responseTimeout, w.invalidCRC, w.illegalFunction, w.illegalDataValue, w.invalidLength,
    w.unknownSubnet, w.unknownAddress, w.unknownFunction, w.unknownProblem]

/-- The roll-up `anyWarning`: the OR of the nine flags (R35, R402). -/
def IlcWarn.rollUp (w : IlcWarn) : IlcWarn := { w with anyWarning := w.causes.any id }

/-- The register after one warning event (R40): the causes cleared, the one cause, the actuator and the
timestamp set, the roll-up recomputed. -/
def IlcWarn.raise (w : IlcWarn) (c : Cause) (actuatorId : I32) (ts : U64) : IlcWarn :=
  IlcWarn.rollUp { (w.clearCauses.setCause c) with actuatorId := actuatorId, timestamp := ts }

/-- The per-actuator clipping flags: true where the coerced value differs (R274, R281). -/
def clipFlags (pre applied : Tri F32) : Tri Bool := Tri.zipWith f32Ne applied pre

/-- The aggregate clipping flag (R274, R281, R402). -/
def anyFlag (t : Tri Bool) : Bool := t.any id

/-- A window after one evaluation: pop the front, push the sample at the back (R314). -/
def winPush (w : List Bool) (sample : Bool) : List Bool := w.drop 1 ++ [sample]

/-- The number of 1s in a window. -/
def winSum (w : List Bool) : Nat := w.countP id

/-- Whether a window is at or over its threshold (R314). -/
def winOver (w : List Bool) (threshold : Nat) : Bool := decide (threshold ≤ winSum w)

end Sys2Proof.Machine
end

