-- ==== Sys2Proof/Machine/Ops.lean ====
section
/-! DEFINITION. The shared operations over the block's buffers and registers: the access primitives
(spec/20_memory.md R84, R85), the ILC map (R90), the response and its statuses (spec/60_exceptions.md
R381), the configuration gate (spec/00_scope.md R16), the event log and the warnings
(spec/10_state.md R40), the expected-response counters (R34), and the fault latch: how a fault is
taken (spec/44_safety.md R312, spec/60_exceptions.md R388) and how its condition ends (R389). -/

namespace Sys2Proof.Machine

/-! ## Buffers and texts -/

/-- The bytes of an ASCII text. -/
def asciiBytes (t : String) : List Byte := t.toList.map (fun ch => BitVec.ofNat 8 ch.toNat)

/-- The bytes of some cells; none if one is not a data cell (R84). -/
def dataBytes : List Cell → Option (List Byte)
  | [] => some []
  | .data b :: r =>
    match dataBytes r with
    | some bs => some (b :: bs)
    | none => none
  | _ :: _ => none

/-- `MemRead(buf, pos, n)` (R84); none where it raises `DecodeError(pos, n)`. -/
def memRead (buf : List Cell) (pos n : Nat) : Option (List Byte) :=
  if buf.length < pos + n then none else dataBytes ((buf.drop pos).take n)

/-- `MemWrite(buf, pos, n, bs)` with `n` the number of bytes (R85); none where it raises
`EncodeError(pos, n)`. -/
def memWrite (buf : List Cell) (pos : Nat) (bs : List Byte) : Option (List Cell) :=
  if buf.length < pos + bs.length then none
  else some (buf.take pos ++ bs.map Cell.data ++ buf.drop (pos + bs.length))

/-! ## The ILC map, in one canonical form

The cells of a subnet stand with their addresses strictly rising, and none holds an entry whose type is
`Unknown`: equal maps are equal lists. -/

/-- `ILCMAP[s][a]` of a subnet's cells: the entry, or the unmapped one (R28). -/
def mapGet : List MapCell → Nat → IlcEntry
  | [], _ => unmapped
  | c :: r, a => if c.address = a then c.entry else mapGet r a

/-- The cells with the entry of `a` put in its place. -/
def mapInsert : List MapCell → Nat → IlcEntry → List MapCell
  | [], a, e => [⟨a, e⟩]
  | c :: r, a, e =>
    if a < c.address then ⟨a, e⟩ :: c :: r
    else if c.address = a then ⟨a, e⟩ :: r
    else c :: mapInsert r a e

/-- `ILCMAP[s][a] <- e`: an entry of type `Unknown` is never listed, so that the form stays canonical. -/
def mapSet (m : List MapCell) (a : Nat) (e : IlcEntry) : List MapCell :=
  if e.type = .unknown then m.filter (fun c => c.address != a) else mapInsert m a e

/-- The canonical form. -/
def mapWf : List MapCell → Bool
  | [] => true
  | [c] => c.entry.type != .unknown
  | c :: d :: r => c.entry.type != .unknown && decide (c.address < d.address) && mapWf (d :: r)

/-- What a lookup finds (R90). -/
inductive Lookup where
  | unknownSubnet
  | unknownAddress
  | found (e : IlcEntry)
  deriving DecidableEq, Repr

/-- `lookup(s, a)` (R90). -/
def State.lookup (s : State) (subnet address : Byte) : Lookup :=
  match Subnet.ofByte subnet with
  | none => .unknownSubnet
  | some n =>
    let e := mapGet (s.frame.ilcMap.get n) address.toNat
    if e.type = .unknown then .unknownAddress else .found e

/-! ## The response and the gate -/

/-- `rsp_status`, the number of a status (R381). -/
def Status.code : Status → Byte
  | .ok => 0
  | .decodeError => 1
  | .encodeError => 2
  | .buildOverflow => 3
  | .badState => 4
  | .badOperand => 5
  | .notConfigured => 6
  | .badConfig => 7

/-- The wires `rsp_status` of the response port: the number of the last response's status (R25, R381). -/
def State.rspStatus (s : State) : Option Byte := s.rsp.map (fun r => r.status.code)

/-- The number of a warning cause (R382). -/
def Cause.code : Cause → Byte
  | .responseTimeout => 1
  | .invalidCRC => 2
  | .illegalFunction => 3
  | .illegalDataValue => 4
  | .invalidLength => 5
  | .unknownSubnet => 6
  | .unknownAddress => 7
  | .unknownFunction => 8
  | .unknownProblem => 9

/-- The code of a component's state (R42). -/
def CompState.code : CompState → Byte
  | .initialising => 0
  | .enabled => 1
  | .disabling => 2
  | .disabled => 3

/-- The code of `RSTATE` (R56). -/
def RaiseState.code : RaiseState → Byte
  | .idle => 0
  | .running => 1
  | .paused => 2
  | .complete => 3

/-- The code of `RDIR` (R56). -/
def RaiseDir.code : RaiseDir → Byte
  | .raise => 0
  | .lower => 1

/-- The code of an in-range counter's status (R367). -/
def HpcStatus.code : HpcStatus → Byte
  | .pending => 0
  | .inRange => 1
  | .timedOut => 2

/-- The response of an operation (R25, R381). -/
def State.respond (s : State) (st : Status) (d : RspData) : State := { s with rsp := some ⟨st, d⟩ }

/-- An operation that ends `OK` with result data. -/
def State.done (s : State) (d : RspData) : Host.Outcome State Fault Refusal := .next (s.respond .ok d)

/-- `raise E` (R11): the operation ends with a status other than `OK` and nothing else is written (R12). -/
def State.refuse (s : State) (st : Status) : Host.Outcome State Fault Refusal :=
  .next (s.respond st .none)

/-- Whether `SETTINGS_LOAD` and `MAP_BUILD` have succeeded (R16). -/
def State.ready (s : State) : Bool := s.cfgLoaded && s.mapBuilt

/-- `NOT_CONFIGURED` is tested before everything else (R16, R381). The response carries no data, a codec
operation's too, whose buffer and cursor R151 would return unchanged on a configured block: the model's
choice (notes/assumptions/32.md). -/
def whenReady (s : State) (k : Host.Outcome State Fault Refusal) : Host.Outcome State Fault Refusal :=
  if s.ready then k else s.refuse .notConfigured

/-! ## The log and the warnings -/

/-- An event appended to `LOG` (R40). -/
def State.logEvent (s : State) (e : Event) : State := { s with log := s.log ++ [e] }

/-- `emit W(cause, actuatorId, ts)` (R40): the register, then a copy of it to `LOG`. -/
def State.emit (s : State) (c : Cause) (actuatorId : I32) (ts : U64) : State :=
  let w := s.frame.ilcWarn.raise c actuatorId ts
  State.logEvent { s with frame := { s.frame with ilcWarn := w } } (.warning w)

/-- The decimal numbers of a list in order, with what the rule leaves open between them (R350). -/
def decimalItems : List Hp → List Byte
  | [] => []
  | [h] => [BitVec.ofNat 8 (0x30 + h.number)]
  | h :: r => BitVec.ofNat 8 (0x30 + h.number) :: (Config.listSep ++ decimalItems r)

/-- A decimal list (R350), its punctuation free (notes/assumptions/15.md). -/
def decimalList (l : List Hp) : List Byte := Config.listOpen ++ decimalItems l ++ Config.listClose

/-- The text of the wait for air pressure (R346). -/
def airNote : List Byte := asciiBytes "waiting for air pressure"

/-- The text that names the hardpoints whose in-range counter timed out (R350). -/
def timeoutNote (l : List Hp) : List Byte :=
  asciiBytes "hardpoint in-range timeout: " ++ decimalList l

/-! ## The expected-response counters -/

/-- `EXPECT_T[i]` changed by `f` (R34); no counter where the file of the type has no element `i`. -/
def FrameUnit.updateExpect (u : FrameUnit) (t : ActType) (i : Nat) (f : I32 → I32) : FrameUnit :=
  match t with
  | .unknown => u
  | .forceActuator => { u with expectFa := modifyAt u.expectFa i f }
  | .hardpoint =>
    match Hp.ofIndex i with
    | none => u
    | some h => { u with expectHp := u.expectHp.set h (f (u.expectHp.get h)) }
  | .hardpointMonitor =>
    match Hp.ofIndex i with
    | none => u
    | some h => { u with expectHm := u.expectHm.set h (f (u.expectHm.get h)) }

/-- `EXPECT_T[i]` (R34); zero where the file of the type has no element `i`. -/
def FrameUnit.expect (u : FrameUnit) (t : ActType) (i : Nat) : I32 :=
  match t with
  | .unknown => 0
  | .forceActuator => u.expectFa.getD i 0
  | .hardpoint => match Hp.ofIndex i with | none => 0 | some h => u.expectHp.get h
  | .hardpointMonitor => match Hp.ofIndex i with | none => 0 | some h => u.expectHm.get h

/-- A counter at an index field, changed by `f`; no counter for a negative index. -/
def FrameUnit.modifyExpect (u : FrameUnit) (t : ActType) (index : I32) (f : I32 → I32) : FrameUnit :=
  match indexOf index with
  | none => u
  | some i => u.updateExpect t i f

/-- `EXPECT_T[e.DataIndex] <- EXPECT_T[e.DataIndex] + d`, in two's complement (R184, R216). -/
def State.bumpExpect (s : State) (e : IlcEntry) (d : I32) : State :=
  { s with frame := s.frame.modifyExpect e.type e.dataIndex (fun v => v + d) }

/-! ## The fault latch -/

/-- The ASCII name of a fault code (R384), which is the report the block itself uses. -/
def FaultCode.asciiName : FaultCode → String
  | .noFault => "NoFault"
  | .ilcCommunicationTimeout => "ILCCommunicationTimeout"
  | .forceActuatorFollowingError => "ForceActuatorFollowingError"
  | .hardpointMeasuredForce => "HardpointMeasuredForce"
  | .hardpointAirPressure => "HardpointAirPressure"
  | .mirrorMoment => "MirrorMoment"
  | .nearNeighbor => "NearNeighbor"
  | .mirrorWeight => "MirrorWeight"
  | .farNeighbor => "FarNeighbor"
  | .forceClipStatic => "ForceClipStatic"
  | .forceClipElevation => "ForceClipElevation"
  | .forceClipAzimuth => "ForceClipAzimuth"
  | .forceClipVelocity => "ForceClipVelocity"
  | .forceClipAcceleration => "ForceClipAcceleration"
  | .forceClipThermal => "ForceClipThermal"
  | .forceClipBalance => "ForceClipBalance"
  | .forceClipActiveOptic => "ForceClipActiveOptic"
  | .forceClipOffset => "ForceClipOffset"
  | .forceClipFinal => "ForceClipFinal"
  | .raiseOperationTimeout => "RaiseOperationTimeout"
  | .lowerOperationTimeout => "LowerOperationTimeout"
  | .communicationMismatch => "CommunicationMismatch"

/-- The report string of a fault code the block raises itself. -/
def reportOf (c : FaultCode) : List Byte := asciiBytes (FaultCode.asciiName c)

/-- `ForceClip(c)`, code `9 + c` (R384). -/
def clipFault : Comp → FaultCode
  | .static => .forceClipStatic
  | .elevation => .forceClipElevation
  | .azimuth => .forceClipAzimuth
  | .velocity => .forceClipVelocity
  | .acceleration => .forceClipAcceleration
  | .thermal => .forceClipThermal
  | .balance => .forceClipBalance
  | .activeOptic => .forceClipActiveOptic
  | .offset => .forceClipOffset

/-- `notify(code, flag, report)` (R312): how a fault is taken. The latch is written only if it is free;
nothing else is (R388). -/
def State.notify (s : State) (code : FaultCode) (flag : Bool) (report : List Byte) : State :=
  if s.cfg.safety.faultEnabled.contains code && flag && s.safety.err.code == .noFault then
    { s with safety := { s.safety with err := ⟨code, report.take s.cfg.safety.reportMax⟩ } }
  else s

/-- The entry of a latched fault at `CHECK_SAFETY` (R322, R388): copy, log, clear. -/
def State.enterFault (s : State) : State :=
  { s with
    log := s.log ++ [.errorCode s.safety.err.code s.safety.err.report]
    safety := { s.safety with errPub := s.safety.err, err := ErrorReg.init } }

/-- The narrow clear, `_clearError()` (R323). -/
def State.clearLatch (s : State) : State :=
  { s with safety := { s.safety with err := ErrorReg.init } }

/-- A window of the same length, all zero. -/
def winClear (w : List Bool) : List Bool := List.replicate w.length false

/-- The end of a fault's condition, `clearErrorCode()` (R324, R389). -/
def State.clearFaults (s : State) : State :=
  { s with
    safety :=
      { err := ErrorReg.init
        errPub := ErrorReg.init
        winIlc := winClear s.safety.winIlc
        winFe := s.safety.winFe.map winClear
        winHpf := s.safety.winHpf.map winClear
        winHpa := s.safety.winHpa.map winClear
        trig := winClear s.safety.trig }
    force := { s.force with momentWarnCnt := 0 } }

/-! ## Force components -/

/-- A component's registers written. -/
def State.setComp (s : State) (c : Comp) (v : Component) : State :=
  { s with force := { s.force with fc := s.force.fc.set c v } }

/-- `FC[c].state <- Enabled` (R262). -/
def State.enableComp (s : State) (c : Comp) : State :=
  s.setComp c { s.force.fc.get c with state := .enabled }

/-- The ramp to zero (R263): from `Initialising` or `Enabled` the targets become +0.0 and the state
`Disabling`; in the other states nothing happens. -/
def Component.disable (v : Component) : Component :=
  match v.state with
  | .initialising => { v with target := v.target.map (fun _ => 0), state := .disabling }
  | .enabled => { v with target := v.target.map (fun _ => 0), state := .disabling }
  | .disabling => v
  | .disabled => v

/-- `FC_DISABLE` and `FC_ZERO` on one component (R263, R270). -/
def State.disableComp (s : State) (c : Comp) : State := s.setComp c (s.force.fc.get c).disable

/-- Several components in order. -/
def State.disableComps (s : State) (cs : List Comp) : State := cs.foldl State.disableComp s

def State.enableComps (s : State) (cs : List Comp) : State := cs.foldl State.enableComp s

/-! ## Reset -/

/-- Every register at its reset value (R70, R420); what the transport has been given and what the
outside presents are not registers of the block. -/
def State.resetAll (s : State) : State := { State.reset with txOut := s.txOut, inputs := s.inputs }

end Sys2Proof.Machine
end

