-- ==== Sys2Proof/Machine/Tables.lean ====
section
/-! DEFINITION. The configuration's functions (spec/00_scope.md R7): for an open table set, the opaque
constants of Config.lean under the constraints the spec does state of them; for the test sets, the
functions of spec/95_test_vectors.md section 1, whose numbers are test values only. -/

namespace Sys2Proof

/-! ## The test functions -/

/-- The value of a finite binary32 in thousandths, rounded to the nearest integer (`mN`, TC1); none for
a NaN, an infinity, or an integer outside `i32`. A tie, which TC1 does not settle, goes to the even
integer (notes/assumptions/9.md). -/
def milli (v : F32) : Option I32 :=
  if f32IsFinite v then
    let m := roundEven (1000 * b32.units v.toNat) (2 ^ b32.scale)
    if b32.neg v.toNat then
      (if m ≤ 2 ^ 31 then some (BitVec.ofInt 32 (-(m : Int))) else none)
    else (if m < 2 ^ 31 then some (BitVec.ofNat 32 m) else none)
  else none

/-- `f32(I32(p) / 1000)` (TC1). -/
def unmilli (p : List Byte) : F32 :=
  let k := signedNat 4 (beNat p)
  BitVec.ofNat 32 (b32.withSign (decide (k < 0)) (b32.roundMag (k.natAbs * 2 ^ b32.scale) 1000))

def milliBytes (v : Option F32) : Option (List Byte) :=
  match v with
  | none => none
  | some x =>
    match milli x with
    | none => none
    | some m => some (beBytes 4 m.toNat)

def tcEncodeParams (f : FnCode) (ax : Axis) (args : AppendArgs) : Option (List Byte) :=
  match f, ax with
  | .forceDemand, .single => milliBytes args.primary
  | .forceDemand, .dual =>
    match milliBytes args.primary, milliBytes args.secondary with
    | some p, some q => some (p ++ q)
    | _, _ => none
  | _, _ => some []

def tcForcePayload (ax : Axis) (p : List Byte) : Option (List SlotWrite) :=
  match ax with
  | .single => if p.length = 4 then some [.primary (unmilli p)] else none
  | .dual =>
    if p.length = 8 then some [.primary (unmilli (p.take 4)), .secondary (unmilli (p.drop 4))]
    else none

def tcDecodePayload (t : ActType) (f : FnCode) (ax : Axis) (p : List Byte) : Option (List SlotWrite) :=
  match t, f with
  | .forceActuator, .forceDemand => tcForcePayload ax p
  | .forceActuator, .pneumaticForceStatus => tcForcePayload ax p
  | .hardpoint, .electromechanicalForceAndStatus =>
    if p.length = 4 then some [.hpForce (unmilli p)] else none
  | _, .reportServerStatus =>
    if p.length = 5 then
      some [.other "mode" (beNat (p.take 1)), .other "status" (beNat ((p.drop 1).take 2)),
        .other "faults" (beNat (p.drop 3))]
    else none
  | _, _ => some []

def tcToCylinder (o : Orientation) (x y z : F32) : F32 × F32 :=
  match o with
  | .singleAxis => (z, 0)
  | .positiveX => (z, x)
  | .negativeX => (z, f32Neg x)
  | .positiveY => (z, y)
  | .negativeY => (z, f32Neg y)

def tcFromCylinder (o : Orientation) (p s : F32) : F32 × F32 × F32 :=
  match o with
  | .singleAxis => (0, 0, p)
  | .positiveX => (s, 0, p)
  | .negativeX => (f32Neg s, 0, p)
  | .positiveY => (0, s, p)
  | .negativeY => (0, f32Neg s, p)

/-- `f32(9 · pct / 100)` (TC2), rounded once. -/
def tcExpectedWeight (pct : F64) : F32 :=
  if f64IsFinite pct then
    BitVec.ofNat 32 (b32.withSign (b64.neg pct.toNat)
      (b32.roundMag (9 * b64.units pct.toNat * 2 ^ b32.scale) (100 * 2 ^ b64.scale)))
  else 0

/-! ## The configuration's functions -/

/-- An open function's value where the spec makes it finite (R217, R282, R286, D30): every finite value is one of
these. -/
def finite32 (v : F32) : F32 := if f32IsFinite v then v else 0

/-- The axis class a payload layout sees: that of the address for functions 75 and 76, and one and the
same for every other function, which may not depend on it (R131). -/
def payloadAxis (f : FnCode) (ax : Axis) : Axis :=
  if f = .forceDemand ∨ f = .pneumaticForceStatus then ax else .single

/-- The bytes of a function 75 request of an open table set: at least one for one force value, and more
for two (R128, R227). -/
def requestWidth (n : BitVec 16) : Axis → Nat
  | .single => Config.requestWidth n .single + 1
  | .dual => Config.requestWidth n .single + 1 + (Config.requestWidth n .dual + 1)

/-- Bytes cut or filled up with zeros to a width; bytes of that width are as they were. -/
def fitWidth (w : Nat) (p : List Byte) : List Byte := (p ++ List.replicate w 0).take w

/-- The request of function 75 to a force actuator, of an open table set (R128, R227): one force value
when `Single` and two when `Dual`, which must be among the operands, in a payload of the width of the
axis class; a `Single` request does not see a secondary one. -/
def forceRequest (n : BitVec 16) (e : IlcEntry) (ax : Axis) (args : AppendArgs) : Option (List Byte) :=
  match ax with
  | .single =>
    if args.primary.isSome then
      (Config.encodeParams n .forceDemand e .single { args with secondary := none }).map
        (fitWidth (requestWidth n .single))
    else none
  | .dual =>
    if args.primary.isSome && args.secondary.isSome then
      (Config.encodeParams n .forceDemand e .dual args).map (fitWidth (requestWidth n .dual))
    else none

/-- `cfg.encodeParams` (R128). -/
def encodeParams (k : TableSet) (f : FnCode) (e : IlcEntry) (ax : Axis) (args : AppendArgs) :
    Option (List Byte) :=
  match k with
  | .tc => tcEncodeParams f ax args
  | .tcHigh => tcEncodeParams f ax args
  | .openSet n =>
    if e.type = .forceActuator ∧ f = .forceDemand then forceRequest n e ax args
    else Config.encodeParams n f e (payloadAxis f ax) args

/-- Whether the response of a function code may write a slot's register: function 67 `hpForce` (R224),
functions 75 and 76 the cylinder forces (R227, R228), every other function none (R220 to R239);
`other` slots are no register. -/
def slotAllowed (f : FnCode) : SlotWrite → Bool
  | .primary _ | .secondary _ => f == .forceDemand || f == .pneumaticForceStatus
  | .hpForce _ => f == .electromechanicalForceAndStatus
  | .other _ _ => true

/-- The payload lengths a response of an open table set may have. A force response of the other axis
class's width is refused (R227): no length is accepted for both classes. -/
def payloadLengthOk (n : BitVec 16) (t : ActType) (f : FnCode) (ax : Axis) (len : Nat) : Bool :=
  if t = .forceActuator ∧ (f = .forceDemand ∨ f = .pneumaticForceStatus) ∧ ax = .dual then
    Config.payloadLengthOk n t f .dual len && !Config.payloadLengthOk n t f .single len
  else Config.payloadLengthOk n t f (payloadAxis f ax) len

/-- `cfg.decodePayload` (R128): none when the payload's length is wrong; for a force actuator the
responses of 75 and 76 write `primary` alone when `Single`, `primary` and `secondary` when `Dual`. -/
def decodePayload (k : TableSet) (t : ActType) (f : FnCode) (ax : Axis) (p : List Byte) :
    Option (List SlotWrite) :=
  match k with
  | .tc => tcDecodePayload t f ax p
  | .tcHigh => tcDecodePayload t f ax p
  | .openSet n =>
    if payloadLengthOk n t f ax p.length then
      if t = .forceActuator ∧ (f = .forceDemand ∨ f = .pneumaticForceStatus) then
        let v := Config.forceValues n f ax p
        match ax with
        | .single => some [.primary v.1]
        | .dual => some [.primary v.1, .secondary v.2]
      else some ((Config.payloadWrites n t f (payloadAxis f ax) p).filter (slotAllowed f))
    else none

/-- `cfg.wire.rxDataByte` (R112). -/
def rxDataByte (k : TableSet) (w : Word16) : Byte :=
  match k with
  | .tc => BitVec.ofNat 8 (w.toNat / 2)
  | .tcHigh => BitVec.ofNat 8 (w.toNat / 256)
  | .openSet n => Config.rxDataByte n w

/-- `cfg.toCylinder` (R282): total, to two finite values; `(z, +0.0)` for `singleAxis`. -/
def toCylinder (k : TableSet) (o : Orientation) (x y z : F32) : F32 × F32 :=
  match k with
  | .tc => tcToCylinder o x y z
  | .tcHigh => tcToCylinder o x y z
  | .openSet n =>
    match o with
    | .singleAxis => (z, 0)
    | o =>
      let v := Config.toCylinder n o x y z
      (finite32 v.1, finite32 v.2)

/-- `cfg.fromCylinder` (R217, D30): total, to three finite values. -/
def fromCylinder (k : TableSet) (o : Orientation) (p s : F32) : F32 × F32 × F32 :=
  match k with
  | .tc => tcFromCylinder o p s
  | .tcHigh => tcFromCylinder o p s
  | .openSet n =>
    let v := Config.fromCylinder n o p s
    (finite32 v.1, finite32 v.2.1, finite32 v.2.2)

/-- `cfg.expectedWeight` (R286): total, to a finite value. -/
def expectedWeight (k : TableSet) (elev pct : F64) : F32 :=
  match k with
  | .tc => tcExpectedWeight pct
  | .tcHigh => tcExpectedWeight pct
  | .openSet n => finite32 (Config.expectedWeight n elev pct)

end Sys2Proof
end

