-- ==== Sys2Proof/Machine/Operands.lean ====
section
/-! DEFINITION. The operand forms: what an operand names (a subnet, a component, a hardpoint, a fault
code, an actuator) and what the configuration holds for it (spec/00_scope.md R7, spec/30_encoding.md
R116, R124, R129, R131, spec/44_safety.md R313). -/

namespace Sys2Proof.Machine

/-- `axis(a)` (R131). -/
def axisOf (address : Byte) : Axis := if address.toNat ≤ 16 then .single else .dual

/-- `cfg.recognised(type, f)` of a function byte (R129); false for every byte outside the catalogue
(R130). -/
def recognised (c : Cfg) (t : ActType) (f : Byte) : Option FnCode :=
  match FnCode.ofByte f with
  | none => none
  | some code => if c.frame.recognised.contains ⟨t, code⟩ then some code else none

/-- The default of `cfg.recognised` (R129): the types that have a parse routine for a function. -/
def defaultTypes : FnCode → List ActType
  | .reportServerID | .reportServerStatus | .changeMode | .resetApplication | .eraseApplication
  | .writeApplication | .verifyApplication => [.forceActuator, .hardpoint, .hardpointMonitor]
  | .stepMotor | .electromechanicalForceAndStatus => [.hardpoint]
  | .setBoostValveDCAGains | .readBoostValveDCAGains | .forceDemand | .pneumaticForceStatus
  | .readDCAPressure | .reportDCAID | .reportDCAStatus => [.forceActuator]
  | .setADCScanRate | .setADCOffsetSensitivity | .readCalibration => [.forceActuator, .hardpoint]
  | .reportLVDT => [.hardpointMonitor]

/-- `cfg.timing[f]` (R124). A well-formed configuration has an entry for every function code. -/
def timingOf (c : Cfg) (f : FnCode) : DirKind × Nat :=
  match c.frame.timing.find? (fun t => t.code == f) with
  | some t => (t.kind, t.us)
  | none => (.waitRx, 0)

/-- The value of `cfg.wire.directiveWord`, a partial function (R112). -/
def directiveWord (w : WireCfg) (k : DirKind) (us : Nat) : Option Word16 :=
  match w.directiveWord.find? (fun d => d.kind == k && d.us == us) with
  | some d => some d.word
  | none => none

/-- `enc`, the word image of a TX cell (R113). Both defaults are met only under a configuration that is
not well-formed (R112). -/
def encCell (w : WireCfg) : Cell → Word16
  | .data b => w.txDataWord.getD b.toNat 0
  | .swTrigger => w.swTrigger
  | .triggerIrq => w.triggerIrq
  | .endOfFrame => w.txEndOfFrame
  | .directive k us => (directiveWord w k us).getD 0

/-- The class of an RX word (R116). -/
inductive RxClass where
  | delim (low : BitVec 12)
  | eof
  | data (b : Byte)
  deriving DecidableEq, Repr

/-- `class(w)`, the tests in the order of R116. -/
def classify (c : Cfg) (w : Word16) : RxClass :=
  if w.extractLsb' 12 4 = 0xB then .delim (w.extractLsb' 0 12)
  else if w.extractLsb' 12 4 = c.frame.wire.rxEofTag then .eof
  else .data (rxDataByte c.tables w)

def RxClass.isDelim : RxClass → Bool
  | .delim _ => true
  | _ => false

def RxClass.isEof : RxClass → Bool
  | .eof => true
  | _ => false

/-- `FaultCode` as an operand of `NOTIFY` (R313): 1 to 21. -/
def notifyCode (b : Byte) : Option FaultCode := if b.toNat = 0 then none else FaultCode.ofCode b.toNat

/-- `cfg.orientation[i]` (R7). -/
def orientationOf (c : Cfg) (i : Nat) : Orientation := c.plant.orientation.getD i .singleAxis

/-- The force of actuator `i` on an axis: the array's element at its index, +0.0 where it has none
(R282). -/
def axisForce (index : List I32) (a : List F32) (i : Nat) : F32 :=
  match indexOf (index.getD i (-1)) with
  | some k => a.getD k 0
  | none => 0

/-- The three forces of actuator `i` read from a triple of arrays (R282, R283). -/
def actuatorForces (c : Cfg) (t : Tri F32) (i : Nat) : F32 × F32 × F32 :=
  (axisForce c.plant.xIndex t.x i, axisForce c.plant.yIndex t.y i, t.z.getD i 0)

/-- Whether an operand `now` is NaN or infinite (R344, R368). -/
def badTime (now : F64) : Bool := !f64IsFinite now

/-- `LoweringFaultState` on the port (R322). -/
def loweringFaultState : Byte := 255

end Sys2Proof.Machine
end

