-- ==== Sys2Proof/Machine/Codec.lean ====
section
/-! DEFINITION. The Binary Codec operations (spec/40_codec.md R150 to R174). They are pure: buffer and
cursor are operands and results, and only the response is written. -/

namespace Sys2Proof.Machine

/-- A read of `n` bytes: the value `mk` makes of them and the cursor past them, or `DECODE_ERROR` with
the buffer and the cursor unchanged (R84, R151). -/
def codecGet (buf : List Cell) (cur n : Nat) (mk : List Byte → CodecValue) (s : State) :
    Host.Outcome State Fault Refusal :=
  whenReady s
    (match memRead buf cur n with
    | some bs => s.done (.read (mk bs) (cur + n))
    | none => .next (s.respond .decodeError (.codecError (some (cur, n)) buf cur)))

/-- A write of some bytes: the buffer with them and the cursor past them, or `ENCODE_ERROR` with the
buffer and the cursor unchanged (R85, R151). -/
def codecSet (buf : List Cell) (cur : Nat) (bs : List Byte) (s : State) :
    Host.Outcome State Fault Refusal :=
  whenReady s
    (match memWrite buf cur bs with
    | some buf' => s.done (.written buf' (cur + bs.length))
    | none => .next (s.respond .encodeError (.codecError (some (cur, bs.length)) buf cur)))

/-- The bytes of a float in the order of `cfg.floatOrder`, from or to most significant first (R83). -/
def floatBytes (o : FloatOrder) (bs : List Byte) : List Byte :=
  match o with
  | .big => bs
  | .little => bs.reverse

def getUnsigned (bs : List Byte) : CodecValue := .unsigned (beNat bs)

def getSigned (n : Nat) (bs : List Byte) : CodecValue := .signed (signedNat n (beNat bs))

/-! ## Reads -/

/-- `GET_U8` (R152). -/
def execGetU8 (buf : List Cell) (cur : Nat) (s : State) : Host.Outcome State Fault Refusal :=
  codecGet buf cur 1 getUnsigned s

/-- `GET_I8` (R153). -/
def execGetI8 (buf : List Cell) (cur : Nat) (s : State) : Host.Outcome State Fault Refusal :=
  codecGet buf cur 1 (getSigned 1) s

/-- `GET_U16` (R154). -/
def execGetU16 (buf : List Cell) (cur : Nat) (s : State) : Host.Outcome State Fault Refusal :=
  codecGet buf cur 2 getUnsigned s

/-- `GET_I16` (R155). -/
def execGetI16 (buf : List Cell) (cur : Nat) (s : State) : Host.Outcome State Fault Refusal :=
  codecGet buf cur 2 (getSigned 2) s

/-- `GET_U32` (R156). -/
def execGetU32 (buf : List Cell) (cur : Nat) (s : State) : Host.Outcome State Fault Refusal :=
  codecGet buf cur 4 getUnsigned s

/-- `GET_I32` (R157). -/
def execGetI32 (buf : List Cell) (cur : Nat) (s : State) : Host.Outcome State Fault Refusal :=
  codecGet buf cur 4 (getSigned 4) s

/-- `GET_U64` (R158). -/
def execGetU64 (buf : List Cell) (cur : Nat) (s : State) : Host.Outcome State Fault Refusal :=
  codecGet buf cur 8 getUnsigned s

/-- `GET_I64` (R159). -/
def execGetI64 (buf : List Cell) (cur : Nat) (s : State) : Host.Outcome State Fault Refusal :=
  codecGet buf cur 8 (getSigned 8) s

/-- `GET_F32` (R160): the bits, in the order of `cfg.floatOrder`. -/
def execGetF32 (buf : List Cell) (cur : Nat) (s : State) : Host.Outcome State Fault Refusal :=
  codecGet buf cur 4
    (fun bs => .f32 (BitVec.ofNat 32 (beNat (floatBytes s.cfg.frame.floatOrder bs)))) s

/-- `GET_F64` (R161). -/
def execGetF64 (buf : List Cell) (cur : Nat) (s : State) : Host.Outcome State Fault Refusal :=
  codecGet buf cur 8
    (fun bs => .f64 (BitVec.ofNat 64 (beNat (floatBytes s.cfg.frame.floatOrder bs)))) s

/-- The length prefix of a string at the cursor, a signed 32-bit integer (R162). -/
def strLength (buf : List Cell) (cur : Nat) : Option Int :=
  match memRead buf cur 4 with
  | some bs => some (signedNat 4 (beNat bs))
  | none => none

/-- `GET_STR` (R162): the length without moving the cursor, then the bytes; a negative length is a
`DECODE_ERROR`, raised without a position (notes/assumptions/14.md). -/
def execGetStr (buf : List Cell) (cur : Nat) (s : State) : Host.Outcome State Fault Refusal :=
  whenReady s
    (match strLength buf cur with
    | none => .next (s.respond .decodeError (.codecError (some (cur, 4)) buf cur))
    | some l =>
      if l < 0 then .next (s.respond .decodeError (.codecError none buf cur))
      else
        match memRead buf (cur + 4) l.toNat with
        | none => .next (s.respond .decodeError (.codecError (some (cur + 4, l.toNat)) buf cur))
        | some bs => s.done (.read (.str bs) (cur + 4 + l.toNat)))

/-! ## Writes -/

/-- `SET_U8` (R163). -/
def execSetU8 (buf : List Cell) (cur : Nat) (v : BitVec 8) (s : State) :
    Host.Outcome State Fault Refusal :=
  codecSet buf cur (beBytes 1 v.toNat) s

/-- `SET_I8` (R164): the byte `trunc_8(value)`. -/
def execSetI8 (buf : List Cell) (cur : Nat) (v : Int) (s : State) :
    Host.Outcome State Fault Refusal :=
  codecSet buf cur (beBytes 1 (truncInt 1 v)) s

/-- `SET_U16` (R165). -/
def execSetU16 (buf : List Cell) (cur : Nat) (v : BitVec 16) (s : State) :
    Host.Outcome State Fault Refusal :=
  codecSet buf cur (beBytes 2 v.toNat) s

/-- `SET_I16` (R166). -/
def execSetI16 (buf : List Cell) (cur : Nat) (v : Int) (s : State) :
    Host.Outcome State Fault Refusal :=
  codecSet buf cur (beBytes 2 (truncInt 2 v)) s

/-- `SET_U32` (R167). -/
def execSetU32 (buf : List Cell) (cur : Nat) (v : BitVec 32) (s : State) :
    Host.Outcome State Fault Refusal :=
  codecSet buf cur (beBytes 4 v.toNat) s

/-- `SET_I32` (R168). -/
def execSetI32 (buf : List Cell) (cur : Nat) (v : Int) (s : State) :
    Host.Outcome State Fault Refusal :=
  codecSet buf cur (beBytes 4 (truncInt 4 v)) s

/-- `SET_U64` (R169). -/
def execSetU64 (buf : List Cell) (cur : Nat) (v : BitVec 64) (s : State) :
    Host.Outcome State Fault Refusal :=
  codecSet buf cur (beBytes 8 v.toNat) s

/-- `SET_I64` (R170). -/
def execSetI64 (buf : List Cell) (cur : Nat) (v : Int) (s : State) :
    Host.Outcome State Fault Refusal :=
  codecSet buf cur (beBytes 8 (truncInt 8 v)) s

/-- `SET_F32` (R171): the bits as they are, in the order of `cfg.floatOrder`. -/
def execSetF32 (buf : List Cell) (cur : Nat) (v : F32) (s : State) :
    Host.Outcome State Fault Refusal :=
  codecSet buf cur (floatBytes s.cfg.frame.floatOrder (beBytes 4 v.toNat)) s

/-- `SET_F64` (R172). -/
def execSetF64 (buf : List Cell) (cur : Nat) (v : F64) (s : State) :
    Host.Outcome State Fault Refusal :=
  codecSet buf cur (floatBytes s.cfg.frame.floatOrder (beBytes 8 v.toNat)) s

/-- `SET_STR` (R173): prefix and bytes, or nothing at all; its errors are raised without a position
(notes/assumptions/14.md). -/
def execSetStr (buf : List Cell) (cur : Nat) (v : List Byte) (s : State) :
    Host.Outcome State Fault Refusal :=
  whenReady s
    (if 2 ^ 31 - 1 < v.length then .next (s.respond .encodeError (.codecError none buf cur))
    else
      match memWrite buf cur (beBytes 4 v.length ++ v) with
      | none => .next (s.respond .encodeError (.codecError none buf cur))
      | some buf' => s.done (.written buf' (cur + 4 + v.length)))

/-- `CRC16` (R174): total. -/
def execCrc16 (bs : List Byte) (s : State) : Host.Outcome State Fault Refusal :=
  whenReady s (s.done (.crc (crc16 bs)))

end Sys2Proof.Machine
end

