-- ==== Sys2Proof/Machine/Force.lean ====
section
/-! DEFINITION. The force pipeline (spec/43_force_pipeline.md R262 to R288): the nine components, the
final stage and the four mirror checks. -/

namespace Sys2Proof.Machine

/-- A component's operation: `BAD_OPERAND` for `c > 8`, else `OK` and the state it leaves. -/
def onComp (c : Byte) (s : State) (f : Comp → State) : Host.Outcome State Fault Refusal :=
  whenReady s
    (match Comp.ofByte c with
    | none => s.refuse .badOperand
    | some k => (f k).done .none)

/-! ## Enable, disable, zero, apply -/

/-- `FC_ENABLE` (R262). -/
def execFcEnable (c : Byte) (s : State) : Host.Outcome State Fault Refusal :=
  onComp c s (fun k => s.enableComp k)

/-- `FC_DISABLE` (R263). -/
def execFcDisable (c : Byte) (s : State) : Host.Outcome State Fault Refusal :=
  onComp c s (fun k => s.disableComp k)

/-- `FC_ZERO` (R270): the behaviour of `FC_DISABLE`. -/
def execFcZero (c : Byte) (s : State) : Host.Outcome State Fault Refusal :=
  onComp c s (fun k => s.disableComp k)

/-- Whether three arrays are targets that `FC_APPLY` accepts (R268): the lengths right, every element
finite. -/
def targetsOk (c : Cfg) (t : Tri F32) : Bool :=
  t.x.length == c.plant.nX && t.y.length == c.plant.nY && t.z.length == c.plant.nFA && t.all f32IsFinite

/-- `FC_APPLY` (R268). -/
def execFcApply (c : Byte) (tX tY tZ : List F32) (s : State) : Host.Outcome State Fault Refusal :=
  whenReady s
    (match Comp.ofByte c with
    | none => s.refuse .badOperand
    | some k =>
      if targetsOk s.cfg ⟨tX, tY, tZ⟩ then
        (s.setComp k { s.force.fc.get k with target := ⟨tX, tY, tZ⟩, state := .enabled }).done .none
      else s.refuse .badOperand)

/-! ## Update -/

/-- `isActive(c)` (R264). -/
def Component.active (v : Component) : Bool :=
  match v.state with
  | .initialising => true
  | .enabled => true
  | .disabling => true
  | .disabled => false

/-- A triple coerced into a limit table (R266, R274, R281). -/
def clampTri (l : Limits) (t : Tri F32) : Tri F32 :=
  Tri.zipWith (fun v b => f32Clamp v b.1 b.2) t (Tri.zipWith Prod.mk l.low l.high)

/-- The walk of `current` toward `target` (R266, R274). -/
def Component.walk (v : Component) (r : F32) : Component :=
  { v with current := Tri.zipWith (fun cur tgt => f32Step cur tgt r) v.current v.target }

/-- Whether every `current` is near zero (R274). -/
def Component.nearZero (v : Component) (eps : F32) : Bool := v.current.all (fun x => f32Le (f32Abs x) eps)

/-- The end of the ramp (R274): exact zeros, and `Disabled`. -/
def Component.finishRamp (v : Component) : Component :=
  { v with
    state := .disabled
    current := v.current.map (fun _ => 0)
    preclipped := v.current.map (fun _ => 0)
    applied := v.current.map (fun _ => 0)
    clipWarn := v.current.map (fun _ => false)
    anyClip := false }

/-- `postUpdateActions()` on the registers (R272, R274). -/
def Component.clip (v : Component) (l : Limits) : Component :=
  let applied := clampTri l v.current
  let flags := clipFlags v.current applied
  { v with
    preclipped := v.current
    applied := applied
    current := applied
    clipWarn := flags
    anyClip := anyFlag flags }

/-- The `Clip` event of a stage, if it clipped (R383). -/
def State.logClip (s : State) (stage : Nat) (flags : Tri Bool) : State :=
  if anyFlag flags then s.logEvent (.clip stage flags) else s

/-- `postUpdateActions()` (R274): clip, event, `notify`. -/
def State.postUpdate (s : State) (c : Comp) (v : Component) : State :=
  let v' := v.clip (s.cfg.force.limits.get c)
  ((s.setComp c v').logClip c.number v'.clipWarn).notify (clipFault c) v'.anyClip (reportOf (clipFault c))

/-- `FC_UPDATE` on a component (R274). -/
def State.updateComp (s : State) (c : Comp) : State :=
  let v := s.force.fc.get c
  if v.state = .disabled then s
  else
    let v' := v.walk (s.cfg.force.maxRate.get c)
    if v'.state = .disabling ∧ v'.nearZero s.cfg.force.nearZeroEps = true then s.setComp c v'.finishRamp
    else s.postUpdate c v'

/-- `FC_UPDATE` (R274). -/
def execFcUpdate (c : Byte) (s : State) : Host.Outcome State Fault Refusal :=
  onComp c s (fun k => s.updateComp k)

/-- `UPDATE_APPLIED` on one component (R276). -/
def State.updateActive (s : State) (c : Comp) : State :=
  if (s.force.fc.get c).active then s.updateComp c else s

/-- `UPDATE_APPLIED` (R276): the active components in order. -/
def execUpdateApplied (s : State) : Host.Outcome State Fault Refusal :=
  whenReady s ((Comp.all.foldl State.updateActive s).done .none)

/-! ## The final stage -/

/-- The final stage's registers written. -/
def State.setFin (s : State) (v : FinalStage) : State := { s with force := { s.force with fin := v } }

/-- The sum of the active components' current forces (R278). -/
def sumActive (c : Cfg) (fc : PerComp Component) : Tri F32 :=
  (Comp.all.filter (fun k => (fc.get k).active)).foldl
    (fun t k => Tri.zipWith f32Add t (fc.get k).current) (Tri.fill c.plant 0)

/-- `sum` (R278). -/
def State.sumForces (s : State) : State :=
  s.setFin { s.force.fin with preclipped := sumActive s.cfg s.force.fc }

/-- `final clip` (R281). -/
def State.finalClip (s : State) : State :=
  let pre := s.force.fin.preclipped
  let applied := clampTri s.cfg.force.finalLimits pre
  let flags := clipFlags pre applied
  ((s.setFin { s.force.fin with applied := applied, clipWarn := flags, anyClip := anyFlag flags }).logClip
    9 flags).notify .forceClipFinal (anyFlag flags) (reportOf .forceClipFinal)

/-- The cylinder setpoints of actuator `i` (R282). -/
def setpoints (c : Cfg) (applied : Tri F32) (i : Nat) : F32 × F32 :=
  let f := actuatorForces c applied i
  toCylinder c.tables (orientationOf c i) f.1 f.2.1 f.2.2

/-- `convert` (R282). -/
def State.convert (s : State) : State :=
  let sp := (List.range s.cfg.plant.nFA).map (setpoints s.cfg s.force.fin.applied)
  s.setFin { s.force.fin with primarySet := sp.map Prod.fst, secondarySet := sp.map Prod.snd }

/-- One actuator's share of the resultant (R283). -/
def addActuator (c : Cfg) (pre : Tri F32) (r : Resultant) (i : Nat) : Resultant :=
  let f := actuatorForces c pre i
  let fx := f.1
  let fy := f.2.1
  let fz := f.2.2
  let p := c.force.pos.getD i ⟨0, 0, 0⟩
  { r with
    fx := f32Add r.fx fx
    fy := f32Add r.fy fy
    fz := f32Add r.fz fz
    mx := f32Add r.mx (f32Sub (f32Mul p.y fz) (f32Mul p.z fy))
    my := f32Add r.my (f32Sub (f32Mul p.z fx) (f32Mul p.x fz))
    mz := f32Add r.mz (f32Sub (f32Mul p.x fy) (f32Mul p.y fx)) }

/-- `ForceMagnitude` (R283). -/
def Resultant.withMagnitude (r : Resultant) : Resultant :=
  { r with
    magnitude :=
      f32Sqrt (f32Add (f32Add (f32Mul r.fx r.fx) (f32Mul r.fy r.fy)) (f32Mul r.fz r.fz)) }

/-- The resultant of the preclipped totals (R283). -/
def resultantOf (c : Cfg) (pre : Tri F32) : Resultant :=
  Resultant.withMagnitude ((List.range c.plant.nFA).foldl (addActuator c pre) ⟨0, 0, 0, 0, 0, 0, 0⟩)

/-- `resultant` (R283). -/
def State.computeResultant (s : State) : State :=
  { s with force := { s.force with res := resultantOf s.cfg s.force.fin.preclipped } }

/-! ## The checks -/

/-- Whether a moment is beyond its limit on some axis (R284). -/
def momentBeyond (r : Resultant) (l : Vec3) : Bool :=
  f32Lt l.x (f32Abs r.mx) || f32Lt l.y (f32Abs r.my) || f32Lt l.z (f32Abs r.mz)

/-- `MOMENT_WARN_CNT` after the check (R284). -/
def momentCount (c : ForceCfg) (r : Resultant) (n : Nat) : Nat :=
  if momentBeyond r c.momentWarn then n + 1 else 0

/-- `MOMENT_WARN_CNT` written (R47). -/
def State.setMomentCount (s : State) (n : Nat) : State :=
  { s with force := { s.force with momentWarnCnt := n } }

/-- The moments check (R284). -/
def State.checkMoments (s : State) : State :=
  let n := momentCount s.cfg.force s.force.res s.force.momentWarnCnt
  (s.setMomentCount n).notify .mirrorMoment
    (momentBeyond s.force.res s.cfg.force.momentFault || decide (s.cfg.force.momentWarnCount < n))
    (reportOf .mirrorMoment)

/-- The average of some elements of an array, summed in list order (R285). -/
def average (z : List F32) (l : List Nat) : F32 :=
  f32Div (l.foldl (fun a j => f32Add a (z.getD j 0)) 0) (f32OfNat l.length)

/-- Whether actuator `i` is outside the band around its neighbours' average (R285, R287). -/
def neighborFlag (abs rel : F32) (z : List F32) (nbr : List (List Nat)) (i : Nat) : Bool :=
  match nbr.getD i [] with
  | [] => false
  | l =>
    let avg := average z l
    f32Lt (f32Add abs (f32Mul rel (f32Abs avg))) (f32Abs (f32Sub (z.getD i 0) avg))

/-- Whether some actuator is flagged (R285, R287). -/
def anyNeighbor (n : Nat) (abs rel : F32) (z : List F32) (nbr : List (List Nat)) : Bool :=
  (List.range n).any (neighborFlag abs rel z nbr)

/-- The near-neighbour check (R285). -/
def State.checkNear (s : State) : State :=
  let f := s.cfg.force
  s.notify .nearNeighbor
    (anyNeighbor s.cfg.plant.nFA f.nearAbs f.nearRel s.force.fin.preclipped.z f.nearNbr)
    (reportOf .nearNeighbor)

/-- The weight check (R286). -/
def State.checkWeight (s : State) : State :=
  let e := expectedWeight s.cfg.tables s.elev s.raise.pct
  s.notify .mirrorWeight (f32Lt s.cfg.force.weightTol (f32Abs (f32Sub s.force.res.fz e)))
    (reportOf .mirrorWeight)

/-- The far-neighbour check (R287). -/
def State.checkFar (s : State) : State :=
  let f := s.cfg.force
  s.notify .farNeighbor
    (anyNeighbor s.cfg.plant.nFA f.farAbs f.farRel s.force.fin.preclipped.z f.farNbr)
    (reportOf .farNeighbor)

/-- The stages of `PROCESS_APPLIED`, in order (R280, R288). -/
def State.processForces (s : State) : State :=
  s.sumForces.finalClip.convert.computeResultant.checkMoments.checkNear.checkWeight.checkFar

/-- `PROCESS_APPLIED` (R280). -/
def execProcessApplied (s : State) : Host.Outcome State Fault Refusal :=
  whenReady s (if s.elevValid then s.processForces.done .none else s.refuse .notConfigured)

end Sys2Proof.Machine
end

