-- ==== Sys2Proof/Machine/Interlock.lean ====
section
/-! DEFINITION. The safety controller's operations (spec/44_safety.md R313 to R324). -/

namespace Sys2Proof.Machine

/-- `NOTIFY` (R313): code 0 and codes above 21 are refused. -/
def execNotify (code : Byte) (flag : Bool) (report : List Byte) (s : State) :
    Host.Outcome State Fault Refusal :=
  whenReady s
    (match notifyCode code with
    | none => s.refuse .badOperand
    | some c => (s.notify c flag report).done .none)

/-! ## Windows -/

/-- `WIN_ILC` after `winEval` (R314). -/
def State.pushIlc (s : State) (sample : Bool) : State :=
  { s with safety := { s.safety with winIlc := winPush s.safety.winIlc sample } }

/-- `WIN_FE[i]` after `winEval` (R314). -/
def State.pushFe (s : State) (i : Nat) (sample : Bool) : State :=
  { s with safety := { s.safety with winFe := modifyAt s.safety.winFe i (fun w => winPush w sample) } }

/-- `WIN_HPF[h]` after `winEval` (R314). -/
def State.pushHpf (s : State) (h : Hp) (sample : Bool) : State :=
  { s with safety :=
      { s.safety with winHpf := s.safety.winHpf.set h (winPush (s.safety.winHpf.get h) sample) } }

/-- `WIN_HPA[h]` after `winEval` (R314). -/
def State.pushHpa (s : State) (h : Hp) (sample : Bool) : State :=
  { s with safety :=
      { s.safety with winHpa := s.safety.winHpa.set h (winPush (s.safety.winHpa.get h) sample) } }

/-- `NOTIFY_ILC_TIMEOUT` (R316). -/
def execNotifyIlcTimeout (s : State) : Host.Outcome State Fault Refusal :=
  whenReady s
    (let s' := s.pushIlc s.frame.anyTimeout
    (s'.notify .ilcCommunicationTimeout (winOver s'.safety.winIlc s.cfg.safety.winThreshold.ilc)
      (reportOf .ilcCommunicationTimeout)).done .none)

/-- `NOTIFY_FA_FOLLOWING_ERROR` (R317). -/
def execNotifyFaFollowingError (i : Nat) (sample : Bool) (report : List Byte) (s : State) :
    Host.Outcome State Fault Refusal :=
  whenReady s
    (if s.cfg.plant.nFA ≤ i then s.refuse .badOperand
    else
      let s' := s.pushFe i sample
      (s'.notify .forceActuatorFollowingError
        (winOver (s'.safety.winFe.getD i []) s.cfg.safety.winThreshold.fe) report).done .none)

/-- `NOTIFY_HP_MEASURED_FORCE` (R318). -/
def execNotifyHpMeasuredForce (h : Byte) (sample : Bool) (report : List Byte) (s : State) :
    Host.Outcome State Fault Refusal :=
  whenReady s
    (match Hp.ofByte h with
    | none => s.refuse .badOperand
    | some k =>
      let s' := s.pushHpf k sample
      (s'.notify .hardpointMeasuredForce
        (winOver (s'.safety.winHpf.get k) s.cfg.safety.winThreshold.hpf) report).done .none)

/-- `NOTIFY_HP_AIR_PRESSURE` (R319). -/
def execNotifyHpAirPressure (h : Byte) (sample : Bool) (report : List Byte) (s : State) :
    Host.Outcome State Fault Refusal :=
  whenReady s
    (match Hp.ofByte h with
    | none => s.refuse .badOperand
    | some k =>
      let s' := s.pushHpa k sample
      (s'.notify .hardpointAirPressure
        (winOver (s'.safety.winHpa.get k) s.cfg.safety.winThreshold.hpa) report).done .none)

/-! ## The verdict and the clears -/

/-- `CHECK_SAFETY` (R322). -/
def execCheckSafety (preferred : Byte) (s : State) : Host.Outcome State Fault Refusal :=
  whenReady s
    (if s.safety.err.code = .noFault then s.done (.hostState preferred)
    else s.enterFault.done (.hostState loweringFaultState))

/-- `CLEAR_ERROR` (R323). -/
def execClearError (s : State) : Host.Outcome State Fault Refusal :=
  whenReady s (s.clearLatch.done .none)

/-- `CLEAR_ERROR_CODE` (R324). -/
def execClearErrorCode (s : State) : Host.Outcome State Fault Refusal :=
  whenReady s (s.clearFaults.done .none)

end Sys2Proof.Machine
end

