-- ==== Sys2Proof/Machine/Raise.lean ====
section
/-! DEFINITION. Raising and lowering (spec/45_raise_lower.md R340 to R371). -/

namespace Sys2Proof.Machine

/-- The registers of RAISE written. -/
def State.setRaise (s : State) (u : RaiseUnit) : State := { s with raise := u }

/-- `PCT` written (R57). -/
def State.setPct (s : State) (v : F64) : State := s.setRaise { s.raise with pct := v }

/-- `(RSTATE, RDIR) = (Running, d)`. -/
def RaiseUnit.runningIn (u : RaiseUnit) (d : RaiseDir) : Bool := u.rstate == .running && u.rdir == d

/-! ## The predicates -/

/-- `|a − b| ≤ tol`, false where a NaN comes in (R351). -/
def within (tol a b : F32) : Bool := f32Le (f32Abs (f32Sub a b)) tol

/-- The following error of actuator `i` in tolerance (R351). -/
def faInTol (s : State) (i : Nat) : Bool :=
  let a := s.frame.afs.getD i ActuatorForce.init
  within s.cfg.raise.feRaiseTol a.primary (s.force.fin.primarySet.getD i 0) &&
    (orientationOf s.cfg i == .singleAxis ||
      within s.cfg.raise.feRaiseTol a.secondary (s.force.fin.secondarySet.getD i 0))

/-- `FA_FE_IN_TOL()` (R351). -/
def faFeOk (s : State) : Bool := (List.range s.cfg.plant.nFA).all (faInTol s)

/-- `HP_FORCES_IN_TOL(raise)` (R352). -/
def hpForcesOk (s : State) (raise : Bool) : Bool :=
  let b := if raise then s.cfg.raise.hpRaiseBand else s.cfg.raise.hpLowerBand
  s.frame.hps.all (fun f => f32Le b.lo f && f32Le f b.hi)

/-- `FA_FE_IN_TOL` (R351). -/
def execFaFeInTol (s : State) : Host.Outcome State Fault Refusal :=
  whenReady s (s.done (.bool (faFeOk s)))

/-- `HP_FORCES_IN_TOL` (R352). -/
def execHpForcesInTol (raise : Bool) (s : State) : Host.Outcome State Fault Refusal :=
  whenReady s (s.done (.bool (hpForcesOk s raise)))

/-! ## In-range counters -/

/-- `status(h)` of a counter (R367). -/
def InRangeCounter.status (c : RaiseCfg) (v : InRangeCounter) : HpcStatus :=
  if c.hpcInRange ≤ v.run then .inRange else if c.hpcMax ≤ v.total then .timedOut else .pending

/-- `(lo + hi) / 2` (R364, R367). -/
def InRangeCounter.midpoint (v : InRangeCounter) : F32 := f32Div (f32Add v.lo v.hi) (f32OfNat 2)

/-- A sample taken by a counter (R364): a frozen counter stays as it is. -/
def InRangeCounter.sample (c : RaiseCfg) (v : InRangeCounter) (f : F32) : InRangeCounter :=
  match v.status c with
  | .inRange => v
  | .timedOut => v
  | .pending =>
    if v.run = 0 ∨ within c.hpcBand f v.midpoint = false then ⟨f, f, 1, v.total + 1⟩
    else ⟨f32Min v.lo f, f32Max v.hi f, v.run + 1, v.total + 1⟩

/-- `HPC[h]` written (R60). -/
def State.setHpc (s : State) (h : Hp) (v : InRangeCounter) : State :=
  s.setRaise { s.raise with hpc := s.raise.hpc.set h v }

/-- `HPC_SAMPLE(h, f)` (R364). -/
def State.sampleHpc (s : State) (h : Hp) (f : F32) : State :=
  s.setHpc h ((s.raise.hpc.get h).sample s.cfg.raise f)

/-- `HPC_STATUS(h)` (R366). -/
def State.hpcStatusOf (s : State) (h : Hp) : HpcStatus := (s.raise.hpc.get h).status s.cfg.raise

/-- `HPC_SAMPLE` (R364). -/
def execHpcSample (h : Byte) (f : F32) (s : State) : Host.Outcome State Fault Refusal :=
  whenReady s
    (match Hp.ofByte h with
    | none => s.refuse .badOperand
    | some k => (s.sampleHpc k f).done .none)

/-- `HPC_RESET` (R365). -/
def execHpcReset (h : Byte) (s : State) : Host.Outcome State Fault Refusal :=
  whenReady s
    (match Hp.ofByte h with
    | none => s.refuse .badOperand
    | some k => (s.setHpc k InRangeCounter.init).done .none)

/-- `HPC_STATUS` (R366). -/
def execHpcStatus (h : Byte) (s : State) : Host.Outcome State Fault Refusal :=
  whenReady s
    (match Hp.ofByte h with
    | none => s.refuse .badOperand
    | some k => s.done (.hpcStatus (s.hpcStatusOf k)))

/-! ## Support percentage -/

/-- `min(100, PCT + cfg.raiseInc)` (R346, R358). -/
def pctUp (c : RaiseCfg) (pct : F64) : F64 := f64Min f64Hundred (f64Add pct c.raiseInc)

/-- `max(0, PCT − cfg.lowerDec)` (R359, R369). -/
def pctDown (c : RaiseCfg) (pct : F64) : F64 := f64Max 0 (f64Sub pct c.lowerDec)

/-- `PCT ≥ 100` (R362). -/
def pctFilled (pct : F64) : Bool := f64Le f64Hundred pct

/-- `PCT ≤ 0` (R363). -/
def pctZeroed (pct : F64) : Bool := f64Le pct 0

/-- `SP_INC` (R358). -/
def execSpInc (s : State) : Host.Outcome State Fault Refusal :=
  whenReady s ((s.setPct (pctUp s.cfg.raise s.raise.pct)).done .none)

/-- `SP_DEC` (R359). -/
def execSpDec (s : State) : Host.Outcome State Fault Refusal :=
  whenReady s ((s.setPct (pctDown s.cfg.raise s.raise.pct)).done .none)

/-- `SP_ZERO` (R360). -/
def execSpZero (s : State) : Host.Outcome State Fault Refusal :=
  whenReady s ((s.setPct 0).done .none)

/-- `SP_FILL` (R361). -/
def execSpFill (s : State) : Host.Outcome State Fault Refusal :=
  whenReady s ((s.setPct f64Hundred).done .none)

/-- `SP_FILLED` (R362). -/
def execSpFilled (s : State) : Host.Outcome State Fault Refusal :=
  whenReady s (s.done (.bool (pctFilled s.raise.pct)))

/-- `SP_ZEROED` (R363). -/
def execSpZeroed (s : State) : Host.Outcome State Fault Refusal :=
  whenReady s (s.done (.bool (pctZeroed s.raise.pct)))

/-! ## Raising -/

/-- The components other than static and elevation (R344, R368). -/
def transferComps : List Comp :=
  [.azimuth, .velocity, .acceleration, .thermal, .balance, .activeOptic, .offset]

/-- The registers of RAISE at the start of a raise (R344). -/
def RaiseUnit.startRaise (u : RaiseUnit) (c : RaiseCfg) (bypass : Bool) (now : F64) : RaiseUnit :=
  { u with
    rstate := .running
    rdir := .raise
    timedOut := false
    pct := 0
    deadline := f64Add now c.raiseTimeout
    remain := c.raiseTimeout
    segStart := now
    bypass := bypass
    stalled := false
    waitAirLogged := false
    hpc := PerHp.pure InRangeCounter.init
    chase := true }

/-- `RAISE_START` (R344). -/
def execRaiseStart (bypass : Bool) (now : F64) (s : State) : Host.Outcome State Fault Refusal :=
  whenReady s
    (if s.raise.rstate ≠ .idle then s.refuse .badState
    else if badTime now then s.refuse .badOperand
    else
      (((s.disableComps transferComps).enableComp .elevation).setRaise
        (s.raise.startRaise s.cfg.raise bypass now)).done .none)

/-- The wait for air pressure (R346): logged once per wait. -/
def State.holdAir (s : State) : State :=
  (if s.raise.waitAirLogged then s else s.logEvent (.raiseNote airNote)).setRaise
    { s.raise with waitAirLogged := true }

/-- A stalled call of a run loop (R346, R369): logged once per stall. -/
def State.stall (s : State) : State :=
  (if s.raise.stalled then s else s.logEvent .raiseStall).setRaise { s.raise with stalled := true }

/-- The registers of RAISE after a progressing call (R346); `p` is the new `PCT`. -/
def RaiseUnit.progressUp (u : RaiseUnit) (p : F64) : RaiseUnit :=
  { u with
    stalled := false
    pct := p
    chase := if pctFilled p then false else u.chase
    moveRef := if pctFilled p && !u.bypass then u.moveRef + 1 else u.moveRef }

/-- A progressing call of the raise loop (R346). -/
def State.progressUp (s : State) : State :=
  let p := pctUp s.cfg.raise s.raise.pct
  let s' := s.setRaise (s.raise.progressUp p)
  if f64Lt s.cfg.raise.staticEnablePct p then s'.enableComp .static else s'

/-- `WAITAIR_LOGGED <- false` (R346). -/
def State.endAirWait (s : State) : State := s.setRaise { s.raise with waitAirLogged := false }

/-- The raise loop's body (R346): the state, and whether the raise progressed. -/
def State.raiseLoop (s : State) (waitAir : Bool) : State × Bool :=
  if pctFilled s.raise.pct then (s, false)
  else if waitAir then (s.holdAir, false)
  else
    let s1 := s.endAirWait
    if hpForcesOk s1 true && faFeOk s1 then (s1.progressUp, true) else (s1.stall, false)

/-- `RAISE_RUNLOOP` (R346). -/
def execRaiseRunloop (waitAir : Bool) (s : State) : Host.Outcome State Fault Refusal :=
  whenReady s
    (if s.raise.runningIn .raise then
      let r := s.raiseLoop waitAir
      r.1.done (.bool r.2)
    else s.refuse .badState)

/-- One sample taken by each hardpoint's counter (R349). -/
def State.sampleAll (s : State) : State :=
  Hp.all.foldl (fun t h => t.sampleHpc h (t.frame.hps.get h)) s

/-- Whether no counter is `Pending` (R349). -/
def noPending (s : State) : Bool := Hp.all.all (fun h => s.hpcStatusOf h != .pending)

/-- `RAISE_CHECK_COMPLETE` (R349). -/
def execRaiseCheckComplete (motionComplete : Bool) (s : State) : Host.Outcome State Fault Refusal :=
  whenReady s
    (if s.raise.runningIn .raise then
      (if pctFilled s.raise.pct && motionComplete then s.sampleAll.done (.bool (noPending s.sampleAll))
      else s.done (.bool false))
    else s.refuse .badState)

/-- The hardpoints whose counter timed out (R350). -/
def timedOutHps (s : State) : List Hp := Hp.all.filter (fun h => s.hpcStatusOf h == .timedOut)

/-- The components at the end of a raise (R350), in the order of the rule, balance apart. -/
def State.finishComps (s : State) : State :=
  ((s.disableComps [.acceleration, .activeOptic, .offset]).enableComps
    [.azimuth, .elevation, .static, .thermal]).disableComp .velocity

/-- The balance forces at the end of a raise, or the report of the hardpoints that timed out (R350). -/
def State.finishBalance (s : State) : State :=
  if timedOutHps s = [] then s.enableComp .balance
  else s.logEvent (.raiseNote (timeoutNote (timedOutHps s)))

/-- `RAISE_COMPLETE` (R350). -/
def execRaiseComplete (s : State) : Host.Outcome State Fault Refusal :=
  whenReady s
    (if s.raise.runningIn .raise then
      (s.finishComps.finishBalance.setRaise
        { s.raise with pct := f64Hundred, deadline := f64NaN, rstate := .complete }).done .none
    else s.refuse .badState)

/-! ## Timeout, pause, reset -/

/-- The fault of an operation timeout, by direction (R354). -/
def timeoutFault : RaiseDir → FaultCode
  | .raise => .raiseOperationTimeout
  | .lower => .lowerOperationTimeout

/-- `TIMEOUT()` (R354). -/
def State.timeOut (s : State) : State :=
  (s.setRaise { s.raise with timedOut := true }).notify (timeoutFault s.raise.rdir) true
    (reportOf (timeoutFault s.raise.rdir))

/-- Whether the deadline has passed (R353): a NaN deadline never does. -/
def expired (deadline now : F64) : Bool := !f64IsNaN deadline && f64Le deadline now

/-- `CHECK_TIMEOUT` (R353). -/
def execCheckTimeout (now : F64) (s : State) : Host.Outcome State Fault Refusal :=
  whenReady s
    (let e := expired s.raise.deadline now
    (if e && s.raise.rstate == .running then s.timeOut else s).done (.bool e))

/-- `TIMEOUT` (R354). -/
def execTimeout (s : State) : Host.Outcome State Fault Refusal :=
  whenReady s
    (if s.raise.rstate = .running ∨ s.raise.rstate = .paused then s.timeOut.done .none
    else s.refuse .badState)

/-- `PAUSE` (R355). -/
def execPause (now : F64) (s : State) : Host.Outcome State Fault Refusal :=
  whenReady s
    (if s.raise.rstate = .running then
      (s.setRaise
        { s.raise with
          remain := f64Sub s.raise.remain (f64Sub now s.raise.segStart)
          deadline := f64NaN
          rstate := .paused }).done .none
    else s.refuse .badState)

/-- `RESUME` (R356). -/
def execResume (now : F64) (s : State) : Host.Outcome State Fault Refusal :=
  whenReady s
    (if s.raise.rstate = .paused then
      (s.setRaise
        { s.raise with
          segStart := now
          deadline := f64Add now s.raise.remain
          rstate := .running }).done .none
    else s.refuse .badState)

/-- `RL_RESET` (R357): the mirror is not moved. -/
def execRlReset (s : State) : Host.Outcome State Fault Refusal :=
  whenReady s
    ((s.setRaise
      { s.raise with
        rstate := .idle
        timedOut := false
        deadline := f64NaN
        remain := 0
        bypass := false
        stalled := false
        waitAirLogged := false
        hpc := PerHp.pure InRangeCounter.init }).done .none)

/-! ## Lowering -/

/-- The registers of RAISE at the start of a lowering (R368). -/
def RaiseUnit.startLower (u : RaiseUnit) (c : RaiseCfg) (now : F64) : RaiseUnit :=
  { u with
    rstate := .running
    rdir := .lower
    timedOut := false
    deadline := f64Add now c.lowerTimeout
    remain := c.lowerTimeout
    segStart := now
    stalled := false
    waitAirLogged := false
    hpc := PerHp.pure InRangeCounter.init
    chase := true }

/-- `LOWER_START` (R368): accepted in the middle of a raise (R342). -/
def execLowerStart (now : F64) (s : State) : Host.Outcome State Fault Refusal :=
  whenReady s
    (if (s.raise.rstate = .running ∨ s.raise.rstate = .paused) ∧ s.raise.rdir = .lower then
      s.refuse .badState
    else if badTime now then s.refuse .badOperand
    else
      ((s.disableComps transferComps).setRaise (s.raise.startLower s.cfg.raise now)).done .none)

/-- A progressing call of the lowering loop (R369). -/
def State.progressDown (s : State) : State :=
  let p := pctDown s.cfg.raise s.raise.pct
  let s' := s.setRaise
    { s.raise with stalled := false, pct := p, chase := if pctZeroed p then false else s.raise.chase }
  if f64Le p s.cfg.raise.staticEnablePct then s'.disableComp .static else s'

/-- The lowering loop's body (R369). -/
def State.lowerLoop (s : State) : State × Bool :=
  if pctZeroed s.raise.pct then (s, false)
  else if hpForcesOk s false && faFeOk s then (s.progressDown, true)
  else (s.stall, false)

/-- `LOWER_RUNLOOP` (R369). -/
def execLowerRunloop (s : State) : Host.Outcome State Fault Refusal :=
  whenReady s
    (if s.raise.runningIn .lower then
      let r := s.lowerLoop
      r.1.done (.bool r.2)
    else s.refuse .badState)

/-- `LOWER_CHECK_COMPLETE` (R370). -/
def execLowerCheckComplete (s : State) : Host.Outcome State Fault Refusal :=
  whenReady s
    (if s.raise.runningIn .lower then s.done (.bool (pctZeroed s.raise.pct)) else s.refuse .badState)

/-- `LOWER_COMPLETE` (R371). -/
def execLowerComplete (s : State) : Host.Outcome State Fault Refusal :=
  whenReady s
    (if s.raise.runningIn .lower then
      ((s.disableComps Comp.all).setRaise
        { s.raise with pct := 0, chase := false, deadline := f64NaN, rstate := .idle }).done .none
    else s.refuse .badState)

end Sys2Proof.Machine
end

