-- ==== Sys2Proof/Machine/CfgCheck.lean ====
section
/-! DEFINITION. When a candidate configuration is well-formed (spec/00_scope.md R8, with the constraints
of the fields in R7, of the wire literals in spec/30_encoding.md R112, and the finiteness of
spec/43_force_pipeline.md R267). `SETTINGS_LOAD` refuses any other (R326). -/

namespace Sys2Proof.Machine

/-- No element occurs twice. -/
def nodupB {α : Type} [DecidableEq α] : List α → Bool
  | [] => true
  | a :: r => !r.contains a && nodupB r

/-- An index field that is −1 or inside an array of `n` elements (R91). -/
def indexOk (v : I32) (n : Nat) : Bool :=
  v == -1 || (match indexOf v with | some i => decide (i < n) | none => false)

/-- An index field inside an array of `n` elements (R91). -/
def indexIn (v : I32) (n : Nat) : Bool :=
  match indexOf v with
  | some i => decide (i < n)
  | none => false

/-- A row of the actuator table: its subnet is a subnet, its address is not the sentinel (R8, R89), and
its indices are inside their arrays (R8, R91) and the same numbers as `xIndex`, `yIndex` (R7). A single-axis
force actuator has no secondary cylinder, so its `SecondaryDataIndex` is −1 (R91). No rule names the
array that `SecondaryDataIndex` indexes, nor gives a hardpoint's or a hardpoint monitor's row an index
but `DataIndex`: there any value is accepted, which is the model's choice (notes/assumptions/12.md). -/
def rowOk (c : PlantCfg) (r : ActuatorRow) : Bool :=
  (Subnet.ofByte r.subnet).isSome && r.address != 255 &&
    match r.entry.type with
    | .unknown => true
    | .forceActuator =>
      indexIn r.entry.dataIndex c.nFA && indexOk r.entry.xDataIndex c.nX &&
        indexOk r.entry.yDataIndex c.nY &&
        (r.entry.secondaryDataIndex == -1 ||
          ((indexOf r.entry.secondaryDataIndex).isSome &&
            c.orientation.getD r.entry.dataIndex.toNat .singleAxis != .singleAxis)) &&
        c.xIndex.getD r.entry.dataIndex.toNat (-1) == r.entry.xDataIndex &&
        c.yIndex.getD r.entry.dataIndex.toNat (-1) == r.entry.yDataIndex
    | .hardpoint => indexIn r.entry.dataIndex 6
    | .hardpointMonitor => indexIn r.entry.dataIndex 6

/-- The sizes, the tables by actuator, the address lists, and the ownership invariant: every actuator
owns exactly one (subnet, address) pair and no pair is owned twice (R8). Two rows of one type may share a
`DataIndex`, on one subnet or on two: no rule forbids it, and accepting it is the model's choice
(notes/assumptions/31.md). Not checked either, R8 listing neither, which is the model's choice too
(notes/assumptions/33.md): that `N_FA`, `N_X` and `N_Y` equal the counts R7 gives them (the force actuators
of the table; the entries of `xIndex`, `yIndex` other than −1), and that no two actuators share a position
in the X or Y arrays. -/
def plantOk (c : PlantCfg) : Bool :=
  decide (c.nX ≤ c.nFA) && decide (c.nY ≤ c.nFA) &&
    c.orientation.length == c.nFA && c.xIndex.length == c.nFA && c.yIndex.length == c.nFA &&
    c.xIndex.all (fun v => indexOk v c.nX) && c.yIndex.all (fun v => indexOk v c.nY) &&
    c.actuatorTable.all (rowOk c) &&
    nodupB (c.actuatorTable.map (fun r => (r.subnet, r.address))) &&
    nodupB (c.actuatorTable.map (fun r => r.entry.actuatorId)) &&
    c.subnetAddrs.all (fun l => l.getLast? == some 255)

/-- Every function code of the catalogue (R126). -/
def FnCode.all : List FnCode :=
  [.reportServerID, .reportServerStatus, .changeMode, .stepMotor, .electromechanicalForceAndStatus,
    .setBoostValveDCAGains, .readBoostValveDCAGains, .forceDemand, .pneumaticForceStatus,
    .setADCScanRate, .setADCOffsetSensitivity, .eraseApplication, .writeApplication,
    .verifyApplication, .resetApplication, .readCalibration, .readDCAPressure, .reportDCAID,
    .reportDCAStatus, .reportLVDT]

/-- The constraints of R112: `txDataWord` injective, the control words and the directive words distinct
from each other and from every data word, `directiveWord` a function that is defined for every
function code's directive, and `rxEofTag ≠ 0xB`. -/
def wireOk (c : Cfg) : Bool :=
  let w := c.frame.wire
  w.txDataWord.length == 256 &&
    nodupB (w.swTrigger :: w.triggerIrq :: w.txEndOfFrame ::
      (w.directiveWord.map (fun d => d.word) ++ w.txDataWord)) &&
    nodupB (w.directiveWord.map (fun d => (d.kind, d.us))) &&
    w.rxEofTag != 0xB &&
    FnCode.all.all (fun f =>
      c.frame.timing.any (fun t => t.code == f) &&
        (directiveWord w (timingOf c f).1 (timingOf c f).2).isSome)

/-- The shape of R43. -/
def Tri.shaped {α : Type} (c : PlantCfg) (t : Tri α) : Bool :=
  t.x.length == c.nX && t.y.length == c.nY && t.z.length == c.nFA

/-- `lowFault ≤ highFault` elementwise, neither NaN (R8), both finite (R267), in the shape of R43. -/
def limitsOk (c : PlantCfg) (l : Limits) : Bool :=
  Tri.shaped c l.low && Tri.shaped c l.high && l.low.all f32IsFinite && l.high.all f32IsFinite &&
    (Tri.zipWith f32Le l.low l.high).all id

def Vec3.finite (v : Vec3) : Bool := f32IsFinite v.x && f32IsFinite v.y && f32IsFinite v.z

def Band.finite (b : Band) : Bool := f32IsFinite b.lo && f32IsFinite b.hi

def forceOk (c : Cfg) : Bool :=
  let p := c.plant
  let f := c.force
  f.limits.all (limitsOk p) && limitsOk p f.finalLimits &&
    f.maxRate.all (fun r => f32IsFinite r && f32Lt 0 r) &&
    f32IsFinite f.nearZeroEps && f32Le 0 f.nearZeroEps &&
    f.pos.length == p.nFA && f.pos.all Vec3.finite &&
    Vec3.finite f.momentFault && Vec3.finite f.momentWarn &&
    f.nearNbr.length == p.nFA && f.nearNbr.all (fun l => l.all (fun i => decide (i < p.nFA))) &&
    f.farNbr.length == p.nFA && f.farNbr.all (fun l => l.all (fun i => decide (i < p.nFA))) &&
    f32IsFinite f.nearAbs && f32IsFinite f.nearRel && f32IsFinite f.farAbs && f32IsFinite f.farRel &&
    f32IsFinite f.weightTol

def safetyOk (c : SafetyCfg) : Bool := c.winPeriod.all (fun n => decide (1 ≤ n))

def raiseOk (c : RaiseCfg) : Bool :=
  f64Lt 0 c.raiseInc && f64Lt 0 c.lowerDec && f32IsFinite c.feRaiseTol && Band.finite c.hpRaiseBand &&
    Band.finite c.hpLowerBand && f32IsFinite c.hpcBand

/-- A well-formed configuration (R8, R112). -/
def cfgOk (c : Cfg) : Bool :=
  plantOk c.plant && wireOk c && forceOk c && safetyOk c.safety && raiseOk c.raise

end Sys2Proof.Machine
end

