-- ==== Sys2Proof/Machine/Build.lean ====
section
/-! DEFINITION. The frame builder and the transport operations (spec/41_frame_build.md R180 to R192). -/

namespace Sys2Proof.Machine

/-- `TXBUF[s]` and its registers written. -/
def State.setTx (s : State) (n : Subnet) (b : TxBatch) : State :=
  { s with frame := { s.frame with tx := s.frame.tx.set n b } }

/-- The subnets other than one. -/
def Subnet.others (n : Subnet) : List Subnet := [Subnet.s1, .s2, .s3, .s4, .s5].filter (fun t => t != n)

/-- Whether a batch is open on another subnet (R181). -/
def otherOpen (s : State) (n : Subnet) : Bool := (Subnet.others n).any (fun t => (s.frame.tx.get t).opened)

/-- Whether any batch is open (R95). -/
def anyOpen (s : State) : Bool := s.frame.tx.toList.any (fun b => b.opened)

/-- The three header cells of a batch (R114, R181). -/
def batchHeader (n : Subnet) : List Cell := [.data n.number, .data 0, .swTrigger]

/-- `START_SUBNET` (R181). -/
def execStartSubnet (sub : Byte) (s : State) : Host.Outcome State Fault Refusal :=
  whenReady s
    (match Subnet.ofByte sub with
    | none => s.refuse .badOperand
    | some n =>
      if otherOpen s n then s.refuse .badState
      else if s.cfg.frame.txCap < 4 then s.refuse .encodeError
      else (s.setTx n ⟨batchHeader n, 3, true⟩).done .none)

/-- The cells of a frame (R111): the bytes, the CRC low byte first (R122), the end marker, the
directive. -/
def frameCells (c : Cfg) (f : FnCode) (body : List Byte) : List Cell :=
  (body ++ crcField (crc16 body)).map Cell.data ++
    [.endOfFrame, .directive (timingOf c f).1 (timingOf c f).2]

/-- The entry and the payload of an `APPEND` (R184), the tests in the order of the rule; none where one
of them gives `BAD_OPERAND`. -/
def appendParts (s : State) (n : Subnet) (address f : Byte) (args : AppendArgs) :
    Option (IlcEntry × FnCode × List Byte) :=
  if address = 255 ∨ 128 ≤ f.toNat then none
  else
    let e := mapGet (s.frame.ilcMap.get n) address.toNat
    if e.type = .unknown then none
    else
      match recognised s.cfg e.type f with
      | none => none
      | some code =>
        match encodeParams s.cfg.tables code e (axisOf address) args with
        | none => none
        | some p => some (e, code, p)

/-- `APPEND` (R184). -/
def execAppend (sub address f : Byte) (args : AppendArgs) (s : State) :
    Host.Outcome State Fault Refusal :=
  whenReady s
    (match Subnet.ofByte sub with
    | none => s.refuse .badState
    | some n =>
      let b := s.frame.tx.get n
      if !b.opened then s.refuse .badState
      else
        match appendParts s n address f args with
        | none => s.refuse .badOperand
        | some (e, code, p) =>
          if s.cfg.frame.txCap < b.len + p.length + 6 + 1 then s.refuse .encodeError
          else
            let cells := frameCells s.cfg code (address :: f :: p)
            ((s.setTx n { b with cells := b.cells ++ cells }).bumpExpect e 1).done .none)

/-- `END_SUBNET` (R186): the `TriggerIrq` cell and the backpatched length byte (R123). -/
def execEndSubnet (sub : Byte) (s : State) : Host.Outcome State Fault Refusal :=
  whenReady s
    (match Subnet.ofByte sub with
    | none => s.refuse .badState
    | some n =>
      let b := s.frame.tx.get n
      if !b.opened then s.refuse .badState
      else
        let l := b.len - b.start
        if 255 < l then s.refuse .buildOverflow
        else
          (s.setTx n
            ⟨(b.cells ++ [Cell.triggerIrq]).set 1 (.data (BitVec.ofNat 8 l)), b.start, false⟩).done .none)

/-- The words of a batch on the transport port (R113). -/
def batchWords (c : Cfg) (b : TxBatch) : List Word16 := b.cells.map (encCell c.frame.wire)

/-- `SEND` (R190): the words go out on `tx[s]`; no register of the block changes. -/
def execSend (sub : Byte) (s : State) : Host.Outcome State Fault Refusal :=
  whenReady s
    (match Subnet.ofByte sub with
    | none => s.refuse .badState
    | some n =>
      let b := s.frame.tx.get n
      if b.opened || b.len == 0 then s.refuse .badState
      else
        State.done
          { s with txOut := s.txOut.set n (s.txOut.get n ++ batchWords s.cfg b) } .none)

/-- `RXBUF[s]` replaced whole (R88, R192). -/
def State.setRx (s : State) (n : Subnet) (rx : List Word16) : State :=
  { s with frame := { s.frame with rx := s.frame.rx.set n rx } }

/-- `WAIT_IRQ` (R192), with the oracle's two draws. A draw longer than `cfg.rxCap` is an operand out of
its range (notes/assumptions/13.md). -/
def execWaitIrq (sub : Byte) (irq : Bool) (rx : List Word16) (s : State) :
    Host.Outcome State Fault Refusal :=
  whenReady s
    (match Subnet.ofByte sub with
    | none => s.refuse .badOperand
    | some n =>
      if irq then
        (if s.cfg.frame.rxCap < rx.length then s.refuse .badOperand
        else (s.setRx n rx).done (.timedOut false))
      else (s.setRx n []).done (.timedOut true))

end Sys2Proof.Machine
end

