-- ==== Sys2Proof/Machine/Parse.lean ====
section
/-! DEFINITION. The ILC map, the response parser and the response accounting
(spec/42_frame_parse.md R210 to R217, R240, R250). -/

namespace Sys2Proof.Machine

/-! ## The map -/

/-- One row of the table placed in the map, with the ids placed so far (R210); none where the rule
raises `BadConfig`. -/
def placeRow (m : PerSubnet (List MapCell)) (ids : List I32) (r : ActuatorRow) :
    Option (PerSubnet (List MapCell)) :=
  match Subnet.ofByte r.subnet with
  | none => none
  | some n =>
    if 254 < r.address.toNat ∨ (mapGet (m.get n) r.address.toNat).type ≠ .unknown ∨
        ids.contains r.entry.actuatorId ∨ r.entry.type = .unknown then none
    else some (m.set n (mapSet (m.get n) r.address.toNat r.entry))

/-- The rows placed in table order. -/
def placeRows : PerSubnet (List MapCell) → List I32 → List ActuatorRow →
    Option (PerSubnet (List MapCell))
  | m, _, [] => some m
  | m, ids, r :: rest =>
    match placeRow m ids r with
    | none => none
    | some m' => placeRows m' (r.entry.actuatorId :: ids) rest

/-- Whether configuration state may be written: no batch open, `RSTATE` `Idle` or `Complete`, no fault
latched (R95, R210, R326). -/
def State.configIdle (s : State) : Bool :=
  !anyOpen s && (s.raise.rstate == .idle || s.raise.rstate == .complete) &&
    s.safety.err.code == .noFault

/-- The map written and `MAP_BUILT` set. -/
def State.setMap (s : State) (m : PerSubnet (List MapCell)) : State :=
  { s with frame := { s.frame with ilcMap := m }, mapBuilt := true }

/-- `MAP_BUILD` (R210); accepted before the block is configured (R16). -/
def execMapBuild (s : State) : Host.Outcome State Fault Refusal :=
  if !s.cfgLoaded || !s.configIdle then s.refuse .badState
  else
    match placeRows (PerSubnet.pure []) [] s.cfg.plant.actuatorTable with
    | none => s.refuse .badConfig
    | some m => (s.setMap m).done .none

/-! ## A frame of an RX batch -/

/-- The words before the first delimiter at or after `p` (R213). -/
def beforeDelim (c : Cfg) (w : List Word16) (p : Nat) : List Word16 :=
  (w.drop p).takeWhile (fun x => !(classify c x).isDelim)

/-- The position after the delimiters at `q` and after the end marker, if there is one (R213). -/
def nextFrame (c : Cfg) (w : List Word16) (q : Nat) : Nat :=
  let q2 := q + ((w.drop q).takeWhile (fun x => (classify c x).isDelim)).length
  match w.drop q2 with
  | [] => q2
  | x :: _ => if (classify c x).isEof then q2 + 1 else q2

/-- The verdict on the bytes of a frame, and its body (R213): the CRC field is the last two bytes, low
byte first. -/
def crcVerdict (bs : List Byte) : Verdict × List Byte :=
  if bs.length < 4 then (.tooShort, [])
  else
    let body := bs.take (bs.length - 2)
    if bs.drop (bs.length - 2) = crcField (crc16 body) then (.good, body) else (.badCrc, [])

/-- `VALIDATE_CRC(b, p)` on the words of a batch (R213). -/
def validate (c : Cfg) (w : List Word16) (p : Nat) : Verdict × List Byte × Nat :=
  let ws := beforeDelim c w p
  let q := p + ws.length
  if w.length ≤ q then (.truncated, [], w.length)
  else
    let v := crcVerdict (ws.map (rxDataByte c.tables))
    (v.1, v.2, nextFrame c w q)

/-- `VALIDATE_CRC` (R213): it writes no state. -/
def execValidateCrc (b : Byte) (p : Nat) (s : State) : Host.Outcome State Fault Refusal :=
  whenReady s
    (match Subnet.ofByte b with
    | none => s.refuse .badOperand
    | some n =>
      if (s.frame.rx.get n).length ≤ p then s.refuse .badOperand
      else
        let v := validate s.cfg (s.frame.rx.get n) p
        s.done (.verdict v.1 v.2.1 v.2.2))

/-! ## A frame whose CRC was right -/

/-- `AFS[i]` changed by `f` (R32). -/
def FrameUnit.modifyAfs (u : FrameUnit) (i : Nat) (f : ActuatorForce → ActuatorForce) : FrameUnit :=
  { u with afs := modifyAt u.afs i f }

/-- One `(slot, value)` of an update (R215): a slot that does not belong to the type writes nothing. -/
def FrameUnit.writeSlot (u : FrameUnit) (t : ActType) (i : Nat) (w : SlotWrite) : FrameUnit :=
  match t, w with
  | .forceActuator, .primary v => u.modifyAfs i (fun a => { a with primary := v })
  | .forceActuator, .secondary v => u.modifyAfs i (fun a => { a with secondary := v })
  | .hardpoint, .hpForce v =>
    match Hp.ofIndex i with
    | none => u
    | some h => { u with hps := u.hps.set h v }
  | _, _ => u

/-- Whether an update writes a cylinder force of `AFS` (R215). -/
def writesForce (t : ActType) (ws : List SlotWrite) : Bool :=
  t == .forceActuator &&
    ws.any (fun w => match w with | .primary _ => true | .secondary _ => true | _ => false)

/-- The derived forces of an actuator recomputed (R217). -/
def derived (c : Cfg) (i : Nat) (a : ActuatorForce) : ActuatorForce :=
  let v := fromCylinder c.tables (orientationOf c i) a.primary a.secondary
  { a with x := v.1, y := v.2.1, z := v.2.2 }

/-- The register writes of an update, in list order, and the derived forces (R215, R217). -/
def FrameUnit.writeUpdate (u : FrameUnit) (c : Cfg) (e : IlcEntry) (ws : List SlotWrite) : FrameUnit :=
  match indexOf e.dataIndex with
  | none => u
  | some i =>
    let u' := ws.foldl (fun v w => v.writeSlot e.type i w) u
    if writesForce e.type ws then u'.modifyAfs i (derived c i) else u'

/-- `commit(e, g, u, ts)` (R215): the writes, the counter (R216), the `Decoded` event. -/
def State.commit (s : State) (sub address g : Byte) (e : IlcEntry) (ws : List SlotWrite) (ts : U64) :
    State :=
  (State.bumpExpect { s with frame := s.frame.writeUpdate s.cfg e ws } e (-1)).logEvent
    (.decoded sub address g ws ts)

/-- The cause an exception code stands for (R240). -/
def exceptionCause (x : Byte) : Cause :=
  if x = 1 then .illegalFunction else if x = 3 then .illegalDataValue else .unknownProblem

/-- `exceptionResponse(e, g, payload, ts)` (R240). -/
def State.exceptionFrame (s : State) (e : IlcEntry) (payload : List Byte) (ts : U64) : State :=
  match payload with
  | [x] =>
    let s' := s.emit (exceptionCause x) e.actuatorId ts
    if s.cfg.frame.excDecrements then s'.bumpExpect e (-1) else s'
  | _ => s.emit .invalidLength e.actuatorId ts

/-- A frame with a function byte below 128 at a mapped address (R212), and the number of frames
decoded: 1 or 0. -/
def State.functionFrame (s : State) (sub address g : Byte) (e : IlcEntry) (payload : List Byte)
    (ts : U64) : State × Nat :=
  match recognised s.cfg e.type g with
  | none => (s.emit .unknownFunction e.actuatorId ts, 0)
  | some code =>
    match decodePayload s.cfg.tables e.type code (axisOf address) payload with
    | none => (s.emit .invalidLength e.actuatorId ts, 0)
    | some ws => (s.commit sub address g e ws ts, 1)

/-- The tail of an iteration of `PARSE` (R212), from the subnet test on: the state, and the number of
frames decoded. -/
def State.frameBody (s : State) (sub address g : Byte) (payload : List Byte) (ts : U64) : State × Nat :=
  match s.lookup sub address with
  | .unknownSubnet => (s.emit .unknownSubnet (-1) ts, 0)
  | .unknownAddress => (s.emit .unknownAddress (-1) ts, 0)
  | .found e =>
    if 128 ≤ g.toNat then (s.exceptionFrame e payload ts, 0)
    else s.functionFrame sub address g e payload ts

/-- The body of a good frame, address and function byte first (R212). A good body has both: the
shorter ones do not occur (R213). -/
def State.goodFrame (s : State) (sub : Byte) (body : List Byte) (ts : U64) : State × Nat :=
  match body with
  | address :: g :: payload => s.frameBody sub address g payload ts
  | _ => (s.emit .invalidLength (-1) ts, 0)

/-! ## The parser -/

/-- The loop of `PARSE` (R212) over the words `w` from position `p`, at most `fuel` times round; the
position moves forward every time (R212), so the number of words is fuel enough. -/
def parseLoop (sub : Byte) (w : List Word16) (ts : U64) : Nat → Nat → State → Nat → State × Nat
  | 0, _, s, frames => (s, frames)
  | fuel + 1, p, s, frames =>
    if w.length ≤ p then (s, frames)
    else
      let v := validate s.cfg w p
      match v.1 with
      | .truncated => (s.emit .invalidLength (-1) ts, frames)
      | .tooShort => parseLoop sub w ts fuel v.2.2 (s.emit .invalidLength (-1) ts) frames
      | .badCrc => parseLoop sub w ts fuel v.2.2 (s.emit .invalidCRC (-1) ts) frames
      | .good =>
        let r := s.goodFrame sub v.2.1 ts
        parseLoop sub w ts fuel v.2.2 r.1 (frames + r.2)

/-- The timestamp of a batch: its first four words, the first most significant (R118). -/
def batchTimestamp (w : List Word16) : U64 :=
  BitVec.ofNat 64 (w.take 4 |>.foldl (fun a x => a * 65536 + x.toNat) 0)

/-- `RXTS[b]` written (R31). -/
def State.setRxts (s : State) (n : Subnet) (ts : U64) : State :=
  { s with frame := { s.frame with rxts := s.frame.rxts.set n ts } }

/-- `PARSE(s, b)` once `b` is a subnet (R212). -/
def State.parseBatch (s : State) (sub : Byte) (n : Subnet) : State × Nat :=
  let w := s.frame.rx.get n
  if w.length = 0 then (s, 0)
  else if w.length < 4 then (s.emit .invalidLength (-1) (s.frame.rxts.get n), 0)
  else
    let ts := batchTimestamp w
    parseLoop sub w ts w.length 4 (s.setRxts n ts) 0

/-- `PARSE` (R212): `b` is `s` where it is omitted. -/
def execParse (sub : Byte) (b : Option Byte) (s : State) : Host.Outcome State Fault Refusal :=
  whenReady s
    (match Subnet.ofByte (b.getD sub) with
    | none => s.refuse .badOperand
    | some n =>
      let r := s.parseBatch sub n
      r.1.done (.frames r.2))

/-! ## After the response window -/

/-- `idOf(T, i)` (R250, R382). Where two rows of the table share the type and the `DataIndex`, which R8 does
not forbid, it is the first in table order: the model's choice (notes/assumptions/31.md). -/
def idOf (c : Cfg) (t : ActType) (i : Nat) : I32 :=
  match c.plant.actuatorTable.find? (fun r => r.entry.type == t && indexOf r.entry.dataIndex == some i) with
  | some r => r.entry.actuatorId
  | none => -1

/-- The counters in the order `RECONCILE` looks at them (R250). -/
def counterList (u : FrameUnit) : List (ActType × Nat) :=
  (List.range u.expectFa.length).map (fun i => (ActType.forceActuator, i)) ++
    (List.range 6).map (fun i => (ActType.hardpoint, i)) ++
    (List.range 6).map (fun i => (ActType.hardpointMonitor, i))

/-- One counter reconciled (R250): a counter that is not zero is reported and zeroed. -/
def reconcileOne (ts : U64) (s : State) (k : ActType × Nat) : State :=
  if s.frame.expect k.1 k.2 = 0 then s
  else
    let s' := s.emit .responseTimeout (idOf s.cfg k.1 k.2) ts
    { s' with frame := s'.frame.updateExpect k.1 k.2 (fun _ => 0) }

/-- Whether a counter is not zero. -/
def anyExpected (u : FrameUnit) : Bool := (counterList u).any (fun k => u.expect k.1 k.2 != 0)

/-- `ANY_TIMEOUT` written (R36). -/
def State.setAnyTimeout (s : State) (b : Bool) : State :=
  { s with frame := { s.frame with anyTimeout := b } }

/-- The counters reconciled, then the aggregate (R250). -/
def State.reconcile (s : State) (ts : U64) : State :=
  ((counterList s.frame).foldl (reconcileOne ts) s).setAnyTimeout (anyExpected s.frame)

/-- `RECONCILE` (R250). -/
def execReconcile (ts : U64) (s : State) : Host.Outcome State Fault Refusal :=
  whenReady s ((s.reconcile ts).done .none)

end Sys2Proof.Machine
end

