-- ==== Sys2Proof/Machine/System.lean ====
section
/-! DEFINITION. Settings, reset and telemetry (spec/44_safety.md R326, spec/70_reset_and_hazards.md R420,
spec/20_memory.md R96). None of them waits for the block to be configured (R16). -/

namespace Sys2Proof.Machine

/-- The state after a configuration has been accepted (R326): FRAME, FORCE, SAFETY and the in-range
counters at their reset values, sized by the new configuration; the rest of RAISE, `LOG` and `ELEV`
kept. -/
def State.loadCfg (s : State) (c : Cfg) : State :=
  { s with
    cfg := c
    cfgLoaded := true
    mapBuilt := false
    frame := FrameUnit.init c
    force := ForceUnit.init c
    safety := SafetyUnit.init c
    raise := { s.raise with hpc := PerHp.pure InRangeCounter.init } }

/-- `SETTINGS_LOAD` (R326). -/
def execSettingsLoad (c : Cfg) (s : State) : Host.Outcome State Fault Refusal :=
  if !s.configIdle then s.refuse .badState
  else if !cfgOk c then s.refuse .badConfig
  else (s.loadCfg c).done .none

/-- `RESET` (R420), accepted in every state. -/
def execReset (s : State) : Host.Outcome State Fault Refusal := s.resetAll.done .none

/-- `PULL_TELEMETRY` (R96). -/
def execPullTelemetry (sample : F64) (s : State) : Host.Outcome State Fault Refusal :=
  State.done { s with elev := sample, elevValid := true } .none

end Sys2Proof.Machine
end

