-- ==== Sys2Proof/Machine/Wire.lean ====
section
/-! DEFINITION. The wire's instructions (spec/42_frame_parse.md R220 to R240): a response frame of one
function code, its CRC already checked, run as one iteration of `PARSE` (R212; notes/assumptions/5.md).
The response says how many frames were decoded, 1 or 0, as `PARSE`'s does. -/

namespace Sys2Proof.Machine

/-- A response frame of function byte `g` (R212), behind the gate of R16. -/
def runResponse (g s a : Byte) (p : List Byte) (ts : U64) (st : State) :
    Host.Outcome State Fault Refusal :=
  whenReady st
    (let r := st.frameBody s a g p ts
    r.1.done (.frames r.2))

/-- Function 17 `ReportServerID` (R220): it writes no register of the block but the counter. -/
def execReportServerID (s a : Byte) (p : List Byte) (ts : U64) (st : State) : Host.Outcome State Fault Refusal :=
  runResponse (FnCode.code .reportServerID) s a p ts st

/-- Function 18 `ReportServerStatus` (R221): it writes no register of the block but the counter. -/
def execReportServerStatus (s a : Byte) (p : List Byte) (ts : U64) (st : State) : Host.Outcome State Fault Refusal :=
  runResponse (FnCode.code .reportServerStatus) s a p ts st

/-- Function 65 `ChangeMode` (R222): it writes no register of the block but the counter. -/
def execChangeMode (s a : Byte) (p : List Byte) (ts : U64) (st : State) : Host.Outcome State Fault Refusal :=
  runResponse (FnCode.code .changeMode) s a p ts st

/-- Function 66 `StepMotor` (R223): it writes no register of the block but the counter. -/
def execStepMotor (s a : Byte) (p : List Byte) (ts : U64) (st : State) : Host.Outcome State Fault Refusal :=
  runResponse (FnCode.code .stepMotor) s a p ts st

/-- Function 67 `ElectromechanicalForceAndStatus` (R224): it may write `HPS[e.DataIndex].force`. -/
def execElectromechanicalForceAndStatus (s a : Byte) (p : List Byte) (ts : U64) (st : State) : Host.Outcome State Fault Refusal :=
  runResponse (FnCode.code .electromechanicalForceAndStatus) s a p ts st

/-- Function 73 `SetBoostValveDCAGains` (R225): it writes no register of the block but the counter. -/
def execSetBoostValveDCAGains (s a : Byte) (p : List Byte) (ts : U64) (st : State) : Host.Outcome State Fault Refusal :=
  runResponse (FnCode.code .setBoostValveDCAGains) s a p ts st

/-- Function 74 `ReadBoostValveDCAGains` (R226): it writes no register of the block but the counter. -/
def execReadBoostValveDCAGains (s a : Byte) (p : List Byte) (ts : U64) (st : State) : Host.Outcome State Fault Refusal :=
  runResponse (FnCode.code .readBoostValveDCAGains) s a p ts st

/-- Function 75 `ForceDemand` (R227): it writes the cylinder forces of `AFS[e.DataIndex]`. -/
def execForceDemand (s a : Byte) (p : List Byte) (ts : U64) (st : State) : Host.Outcome State Fault Refusal :=
  runResponse (FnCode.code .forceDemand) s a p ts st

/-- Function 76 `PneumaticForceStatus` (R228): it writes the cylinder forces of `AFS[e.DataIndex]`. -/
def execPneumaticForceStatus (s a : Byte) (p : List Byte) (ts : U64) (st : State) : Host.Outcome State Fault Refusal :=
  runResponse (FnCode.code .pneumaticForceStatus) s a p ts st

/-- Function 80 `SetADCScanRate` (R229): it writes no register of the block but the counter. -/
def execSetADCScanRate (s a : Byte) (p : List Byte) (ts : U64) (st : State) : Host.Outcome State Fault Refusal :=
  runResponse (FnCode.code .setADCScanRate) s a p ts st

/-- Function 81 `SetADCOffsetSensitivity` (R230): it writes no register of the block but the counter. -/
def execSetADCOffsetSensitivity (s a : Byte) (p : List Byte) (ts : U64) (st : State) : Host.Outcome State Fault Refusal :=
  runResponse (FnCode.code .setADCOffsetSensitivity) s a p ts st

/-- Function 101 `EraseApplication` (R231): it writes no register of the block but the counter. -/
def execEraseApplication (s a : Byte) (p : List Byte) (ts : U64) (st : State) : Host.Outcome State Fault Refusal :=
  runResponse (FnCode.code .eraseApplication) s a p ts st

/-- Function 102 `WriteApplication` (R232): it writes no register of the block but the counter. -/
def execWriteApplication (s a : Byte) (p : List Byte) (ts : U64) (st : State) : Host.Outcome State Fault Refusal :=
  runResponse (FnCode.code .writeApplication) s a p ts st

/-- Function 103 `VerifyApplication` (R233): it writes no register of the block but the counter. -/
def execVerifyApplication (s a : Byte) (p : List Byte) (ts : U64) (st : State) : Host.Outcome State Fault Refusal :=
  runResponse (FnCode.code .verifyApplication) s a p ts st

/-- Function 107 `ResetApplication` (R234): it writes no register of the block but the counter. -/
def execResetApplication (s a : Byte) (p : List Byte) (ts : U64) (st : State) : Host.Outcome State Fault Refusal :=
  runResponse (FnCode.code .resetApplication) s a p ts st

/-- Function 110 `ReadCalibration` (R235): it writes no register of the block but the counter. -/
def execReadCalibration (s a : Byte) (p : List Byte) (ts : U64) (st : State) : Host.Outcome State Fault Refusal :=
  runResponse (FnCode.code .readCalibration) s a p ts st

/-- Function 119 `ReadDCAPressure` (R236): it writes no register of the block but the counter. -/
def execReadDCAPressure (s a : Byte) (p : List Byte) (ts : U64) (st : State) : Host.Outcome State Fault Refusal :=
  runResponse (FnCode.code .readDCAPressure) s a p ts st

/-- Function 120 `ReportDCAID` (R237): it writes no register of the block but the counter. -/
def execReportDCAID (s a : Byte) (p : List Byte) (ts : U64) (st : State) : Host.Outcome State Fault Refusal :=
  runResponse (FnCode.code .reportDCAID) s a p ts st

/-- Function 121 `ReportDCAStatus` (R238): it writes no register of the block but the counter. -/
def execReportDCAStatus (s a : Byte) (p : List Byte) (ts : U64) (st : State) : Host.Outcome State Fault Refusal :=
  runResponse (FnCode.code .reportDCAStatus) s a p ts st

/-- Function 122 `ReportLVDT` (R239): it writes no register of the block but the counter. -/
def execReportLVDT (s a : Byte) (p : List Byte) (ts : U64) (st : State) : Host.Outcome State Fault Refusal :=
  runResponse (FnCode.code .reportLVDT) s a p ts st

/-- An exception response, function byte `f + 128` (R240). -/
def execExceptionResponse (s a : Byte) (f : BitVec 7) (p : List Byte) (ts : U64) (st : State) :
    Host.Outcome State Fault Refusal :=
  runResponse (exceptionByte f) s a p ts st

end Sys2Proof.Machine
end

