-- ==== Sys2Proof/Machine/Dispatch.lean ====
section
/-! DEFINITION. The meaning of an instruction: one arm for each constructor. -/

namespace Sys2Proof.Machine

def exec (i : Instr) (s : State) : Host.Outcome State Fault Refusal :=
  match i with
  | .getU8 a1 a2 => Sys2Proof.Machine.execGetU8 a1 a2 s
  | .getI8 a1 a2 => Sys2Proof.Machine.execGetI8 a1 a2 s
  | .getU16 a1 a2 => Sys2Proof.Machine.execGetU16 a1 a2 s
  | .getI16 a1 a2 => Sys2Proof.Machine.execGetI16 a1 a2 s
  | .getU32 a1 a2 => Sys2Proof.Machine.execGetU32 a1 a2 s
  | .getI32 a1 a2 => Sys2Proof.Machine.execGetI32 a1 a2 s
  | .getU64 a1 a2 => Sys2Proof.Machine.execGetU64 a1 a2 s
  | .getI64 a1 a2 => Sys2Proof.Machine.execGetI64 a1 a2 s
  | .getF32 a1 a2 => Sys2Proof.Machine.execGetF32 a1 a2 s
  | .getF64 a1 a2 => Sys2Proof.Machine.execGetF64 a1 a2 s
  | .getStr a1 a2 => Sys2Proof.Machine.execGetStr a1 a2 s
  | .setU8 a1 a2 a3 => Sys2Proof.Machine.execSetU8 a1 a2 a3 s
  | .setI8 a1 a2 a3 => Sys2Proof.Machine.execSetI8 a1 a2 a3 s
  | .setU16 a1 a2 a3 => Sys2Proof.Machine.execSetU16 a1 a2 a3 s
  | .setI16 a1 a2 a3 => Sys2Proof.Machine.execSetI16 a1 a2 a3 s
  | .setU32 a1 a2 a3 => Sys2Proof.Machine.execSetU32 a1 a2 a3 s
  | .setI32 a1 a2 a3 => Sys2Proof.Machine.execSetI32 a1 a2 a3 s
  | .setU64 a1 a2 a3 => Sys2Proof.Machine.execSetU64 a1 a2 a3 s
  | .setI64 a1 a2 a3 => Sys2Proof.Machine.execSetI64 a1 a2 a3 s
  | .setF32 a1 a2 a3 => Sys2Proof.Machine.execSetF32 a1 a2 a3 s
  | .setF64 a1 a2 a3 => Sys2Proof.Machine.execSetF64 a1 a2 a3 s
  | .setStr a1 a2 a3 => Sys2Proof.Machine.execSetStr a1 a2 a3 s
  | .crc16 a1 => Sys2Proof.Machine.execCrc16 a1 s
  | .startSubnet a1 => Sys2Proof.Machine.execStartSubnet a1 s
  | .append a1 a2 a3 a4 => Sys2Proof.Machine.execAppend a1 a2 a3 a4 s
  | .endSubnet a1 => Sys2Proof.Machine.execEndSubnet a1 s
  | .send a1 => Sys2Proof.Machine.execSend a1 s
  | .waitIrq a1 a2 a3 => Sys2Proof.Machine.execWaitIrq a1 a2 a3 s
  | .mapBuild => Sys2Proof.Machine.execMapBuild s
  | .parse a1 a2 => Sys2Proof.Machine.execParse a1 a2 s
  | .reconcile a1 => Sys2Proof.Machine.execReconcile a1 s
  | .validateCrc a1 a2 => Sys2Proof.Machine.execValidateCrc a1 a2 s
  | .fcEnable a1 => Sys2Proof.Machine.execFcEnable a1 s
  | .fcDisable a1 => Sys2Proof.Machine.execFcDisable a1 s
  | .fcApply a1 a2 a3 a4 => Sys2Proof.Machine.execFcApply a1 a2 a3 a4 s
  | .fcZero a1 => Sys2Proof.Machine.execFcZero a1 s
  | .fcUpdate a1 => Sys2Proof.Machine.execFcUpdate a1 s
  | .updateApplied => Sys2Proof.Machine.execUpdateApplied s
  | .processApplied => Sys2Proof.Machine.execProcessApplied s
  | .notify a1 a2 a3 => Sys2Proof.Machine.execNotify a1 a2 a3 s
  | .notifyIlcTimeout => Sys2Proof.Machine.execNotifyIlcTimeout s
  | .notifyFaFollowingError a1 a2 a3 => Sys2Proof.Machine.execNotifyFaFollowingError a1 a2 a3 s
  | .notifyHpMeasuredForce a1 a2 a3 => Sys2Proof.Machine.execNotifyHpMeasuredForce a1 a2 a3 s
  | .notifyHpAirPressure a1 a2 a3 => Sys2Proof.Machine.execNotifyHpAirPressure a1 a2 a3 s
  | .checkSafety a1 => Sys2Proof.Machine.execCheckSafety a1 s
  | .clearError => Sys2Proof.Machine.execClearError s
  | .clearErrorCode => Sys2Proof.Machine.execClearErrorCode s
  | .settingsLoad a1 => Sys2Proof.Machine.execSettingsLoad a1 s
  | .raiseStart a1 a2 => Sys2Proof.Machine.execRaiseStart a1 a2 s
  | .raiseRunloop a1 => Sys2Proof.Machine.execRaiseRunloop a1 s
  | .raiseCheckComplete a1 => Sys2Proof.Machine.execRaiseCheckComplete a1 s
  | .raiseComplete => Sys2Proof.Machine.execRaiseComplete s
  | .checkTimeout a1 => Sys2Proof.Machine.execCheckTimeout a1 s
  | .timeout => Sys2Proof.Machine.execTimeout s
  | .pause a1 => Sys2Proof.Machine.execPause a1 s
  | .resume a1 => Sys2Proof.Machine.execResume a1 s
  | .rlReset => Sys2Proof.Machine.execRlReset s
  | .lowerStart a1 => Sys2Proof.Machine.execLowerStart a1 s
  | .lowerRunloop => Sys2Proof.Machine.execLowerRunloop s
  | .lowerCheckComplete => Sys2Proof.Machine.execLowerCheckComplete s
  | .lowerComplete => Sys2Proof.Machine.execLowerComplete s
  | .spInc => Sys2Proof.Machine.execSpInc s
  | .spDec => Sys2Proof.Machine.execSpDec s
  | .spZero => Sys2Proof.Machine.execSpZero s
  | .spFill => Sys2Proof.Machine.execSpFill s
  | .spFilled => Sys2Proof.Machine.execSpFilled s
  | .spZeroed => Sys2Proof.Machine.execSpZeroed s
  | .hpcSample a1 a2 => Sys2Proof.Machine.execHpcSample a1 a2 s
  | .hpcReset a1 => Sys2Proof.Machine.execHpcReset a1 s
  | .hpcStatus a1 => Sys2Proof.Machine.execHpcStatus a1 s
  | .faFeInTol => Sys2Proof.Machine.execFaFeInTol s
  | .hpForcesInTol a1 => Sys2Proof.Machine.execHpForcesInTol a1 s
  | .reset => Sys2Proof.Machine.execReset s
  | .pullTelemetry a1 => Sys2Proof.Machine.execPullTelemetry a1 s
  | .reportServerID a1 a2 a3 a4 => Sys2Proof.Machine.execReportServerID a1 a2 a3 a4 s
  | .reportServerStatus a1 a2 a3 a4 => Sys2Proof.Machine.execReportServerStatus a1 a2 a3 a4 s
  | .changeMode a1 a2 a3 a4 => Sys2Proof.Machine.execChangeMode a1 a2 a3 a4 s
  | .stepMotor a1 a2 a3 a4 => Sys2Proof.Machine.execStepMotor a1 a2 a3 a4 s
  | .electromechanicalForceAndStatus a1 a2 a3 a4 => Sys2Proof.Machine.execElectromechanicalForceAndStatus a1 a2 a3 a4 s
  | .setBoostValveDCAGains a1 a2 a3 a4 => Sys2Proof.Machine.execSetBoostValveDCAGains a1 a2 a3 a4 s
  | .readBoostValveDCAGains a1 a2 a3 a4 => Sys2Proof.Machine.execReadBoostValveDCAGains a1 a2 a3 a4 s
  | .forceDemand a1 a2 a3 a4 => Sys2Proof.Machine.execForceDemand a1 a2 a3 a4 s
  | .pneumaticForceStatus a1 a2 a3 a4 => Sys2Proof.Machine.execPneumaticForceStatus a1 a2 a3 a4 s
  | .setADCScanRate a1 a2 a3 a4 => Sys2Proof.Machine.execSetADCScanRate a1 a2 a3 a4 s
  | .setADCOffsetSensitivity a1 a2 a3 a4 => Sys2Proof.Machine.execSetADCOffsetSensitivity a1 a2 a3 a4 s
  | .eraseApplication a1 a2 a3 a4 => Sys2Proof.Machine.execEraseApplication a1 a2 a3 a4 s
  | .writeApplication a1 a2 a3 a4 => Sys2Proof.Machine.execWriteApplication a1 a2 a3 a4 s
  | .verifyApplication a1 a2 a3 a4 => Sys2Proof.Machine.execVerifyApplication a1 a2 a3 a4 s
  | .resetApplication a1 a2 a3 a4 => Sys2Proof.Machine.execResetApplication a1 a2 a3 a4 s
  | .readCalibration a1 a2 a3 a4 => Sys2Proof.Machine.execReadCalibration a1 a2 a3 a4 s
  | .readDCAPressure a1 a2 a3 a4 => Sys2Proof.Machine.execReadDCAPressure a1 a2 a3 a4 s
  | .reportDCAID a1 a2 a3 a4 => Sys2Proof.Machine.execReportDCAID a1 a2 a3 a4 s
  | .reportDCAStatus a1 a2 a3 a4 => Sys2Proof.Machine.execReportDCAStatus a1 a2 a3 a4 s
  | .reportLVDT a1 a2 a3 a4 => Sys2Proof.Machine.execReportLVDT a1 a2 a3 a4 s
  | .exceptionResponse a1 a2 a3 a4 a5 => Sys2Proof.Machine.execExceptionResponse a1 a2 a3 a4 a5 s

end Sys2Proof.Machine
end

