-- ==== Sys2Proof/Machine/Fetch.lean ====
section
/-! DEFINITION. How the block takes what the outside presents (spec/10_state.md R22 to R26): a command, a
response frame, the reset pin, an interrupt pulse. There is no program counter (R21): the next
instruction is the next item presented (notes/assumptions/3.md). -/

namespace Sys2Proof.Machine

/-- A response frame whose body decodes to no instruction: a function byte outside the catalogue is
still looked up and reported (R130, R212); a body without an address and a function byte is too short
to be a frame (R214). -/
def runOddFrame (sub : Byte) (ts : U64) (body : List Byte) (s : State) :
    Host.Outcome State Fault Refusal :=
  whenReady s
    (let r := s.goodFrame sub body ts
    r.1.done (.frames r.2))

/-- An input that decodes to no instruction. An unassigned operation code is `BAD_OPERAND` in every state
(R16, R140). The reset pin has the effect of `RESET` and gives no response (R421). An interrupt pulse
that no `WAIT_IRQ` waits for is lost (R391). -/
def rejectInput (e : DecodeError) (x : Input) (s : State) : Host.Outcome State Fault Refusal :=
  match x with
  | .rstN => .next s.resetAll
  | .irq _ => .next s
  | .response sub ts body => runOddFrame sub ts body s
  | .command _ =>
    match e with
    | .unassigned _ => s.refuse .badOperand
    | .malformed op => .refused (.malformedRecord op)
    | _ => .fault .noOperationCode

/-- An input taken: its instruction run, or the input rejected by name. -/
def runInput (x : Input) (s : State) : Host.Outcome State Fault Refusal :=
  match decodeInput x with
  | .ok i => exec i s
  | .error e => rejectInput e x s

/-- The next input taken off the queue and run; with none presented, the block waits (R24). -/
def runNext (s : State) : Host.Outcome State Fault Refusal :=
  match s.inputs with
  | [] => .next s
  | x :: rest => runInput x { s with inputs := rest }

end Sys2Proof.Machine
end

