-- ==== Sys2Proof/Machine/Pseudo.lean ====
section
/-! DEFINITION. The pseudo-operations (spec/30_encoding.md R142, spec/41_frame_build.md R188): each an
abbreviation of a sequence of operations, and no instruction of its own. -/

namespace Sys2Proof.Machine

/-- The operations in order, up to the first that does not end `OK`, whose status is then the answer
(R188). -/
def runSeq : List Instr → State → Host.Outcome State Fault Refusal
  | [], s => .next s
  | i :: rest, s =>
    match exec i s with
    | .next t => if t.rsp.any (fun r => r.status == .ok) then runSeq rest t else .next t
    | .fault r => .fault r
    | .refused r => .refused r

/-- Whether `BUILD_BATCH` appends a frame for an address (R188): the address is mapped, and its type has
a routine for the function. -/
def batchAddress (s : State) (n : Subnet) (f a : Byte) : Bool :=
  let e := mapGet (s.frame.ilcMap.get n) a.toNat
  e.type != .unknown && (recognised s.cfg e.type f).isSome

/-- The addresses `BUILD_BATCH` visits on a subnet: up to the sentinel 255 (R188). -/
def batchAddresses (s : State) (n : Subnet) (f : Byte) : List Byte :=
  ((s.cfg.plant.subnetAddrs.get n).takeWhile (fun a => a != 255)).filter (batchAddress s n f)

/-- `args[a]`, the operand record for an address; an empty record where none is given. -/
def argsFor (args : List (Byte × AppendArgs)) (a : Byte) : AppendArgs :=
  match args.find? (fun p => p.1 == a) with
  | some p => p.2
  | none => ⟨none, none, []⟩

/-- The expansion of `BUILD_BATCH s f args` (R188). -/
def buildBatch (s : State) (sub f : Byte) (args : List (Byte × AppendArgs)) : List Instr :=
  let addresses := match Subnet.ofByte sub with
    | none => []
    | some n => batchAddresses s n f
  .startSubnet sub :: (addresses.map (fun a => Instr.append sub a f (argsFor args a)) ++ [.endSubnet sub])

/-- The expansion of `EXCHANGE s`, with the oracle's draws (R142). -/
def exchange (sub : Byte) (irq : Bool) (rx : List Word16) : List Instr :=
  [.send sub, .waitIrq sub irq rx, .parse sub none]

/-- The expansion of `FORCE_CYCLE` (R142). -/
def forceCycle : List Instr := [.updateApplied, .processApplied]

end Sys2Proof.Machine
end

