-- ==== Sys2Proof/Safety.lean ====
section
/-! DEFINITION. The terms in which statements are made: which parts of the state an instruction may
write (each register's rule in spec/10_state.md names its writers, R393), and the invariants of a run,
each from the rule it names. -/

namespace Sys2Proof.Machine

/-! ## Parts of the state and their writers -/

/-- The parts of the state that a writer's rule tells apart. -/
inductive Part where
  | cfg | ilcMap | tx | rx | rxts | afs | hps | expect | ilcWarn | anyTimeout
  | components | finalStage | momentCount
  | err | errPub | winIlc | winFe | winHpf | winHpa | trig
  | raiseMachine | pct | hpc | chase
  | elev | log | txOut | inputs
  deriving DecidableEq, Repr

/-- The registers of RAISE that `raiseMachine` stands for: `RSTATE`, `RDIR`, `TIMEDOUT`, `DEADLINE`,
`REMAIN`, `SEGSTART`, `BYPASS`, `STALLED`, `WAITAIR_LOGGED` (R56, R58, R59). -/
def RaiseUnit.sameMachine (u v : RaiseUnit) : Prop :=
  u.rstate = v.rstate ∧ u.rdir = v.rdir ∧ u.timedOut = v.timedOut ∧ u.deadline = v.deadline ∧
    u.remain = v.remain ∧ u.segStart = v.segStart ∧ u.bypass = v.bypass ∧ u.stalled = v.stalled ∧
    u.waitAirLogged = v.waitAirLogged

/-- A part holds the same in two states. -/
def State.same (s t : State) : Part → Prop
  | .cfg => t.cfg = s.cfg ∧ t.cfgLoaded = s.cfgLoaded
  | .ilcMap => t.frame.ilcMap = s.frame.ilcMap ∧ t.mapBuilt = s.mapBuilt
  | .tx => t.frame.tx = s.frame.tx
  | .rx => t.frame.rx = s.frame.rx
  | .rxts => t.frame.rxts = s.frame.rxts
  | .afs => t.frame.afs = s.frame.afs
  | .hps => t.frame.hps = s.frame.hps
  | .expect => t.frame.expectFa = s.frame.expectFa ∧ t.frame.expectHp = s.frame.expectHp ∧
      t.frame.expectHm = s.frame.expectHm
  | .ilcWarn => t.frame.ilcWarn = s.frame.ilcWarn
  | .anyTimeout => t.frame.anyTimeout = s.frame.anyTimeout
  | .components => t.force.fc = s.force.fc
  | .finalStage => t.force.fin = s.force.fin ∧ t.force.res = s.force.res
  | .momentCount => t.force.momentWarnCnt = s.force.momentWarnCnt
  | .err => t.safety.err = s.safety.err
  | .errPub => t.safety.errPub = s.safety.errPub
  | .winIlc => t.safety.winIlc = s.safety.winIlc
  | .winFe => t.safety.winFe = s.safety.winFe
  | .winHpf => t.safety.winHpf = s.safety.winHpf
  | .winHpa => t.safety.winHpa = s.safety.winHpa
  | .trig => t.safety.trig = s.safety.trig
  | .raiseMachine => RaiseUnit.sameMachine t.raise s.raise
  | .pct => t.raise.pct = s.raise.pct
  | .hpc => t.raise.hpc = s.raise.hpc
  | .chase => t.raise.chase = s.raise.chase ∧ t.raise.moveRef = s.raise.moveRef
  | .elev => t.elev = s.elev ∧ t.elevValid = s.elevValid
  | .log => t.log = s.log
  | .txOut => t.txOut = s.txOut
  | .inputs => t.inputs = s.inputs

/-- The parts an instruction may write: the registers that its rule writes, and no other. -/
def writable : Instr → List Part
  | .getU8 _ _ => []
  | .getI8 _ _ => []
  | .getU16 _ _ => []
  | .getI16 _ _ => []
  | .getU32 _ _ => []
  | .getI32 _ _ => []
  | .getU64 _ _ => []
  | .getI64 _ _ => []
  | .getF32 _ _ => []
  | .getF64 _ _ => []
  | .getStr _ _ => []
  | .setU8 _ _ _ => []
  | .setI8 _ _ _ => []
  | .setU16 _ _ _ => []
  | .setI16 _ _ _ => []
  | .setU32 _ _ _ => []
  | .setI32 _ _ _ => []
  | .setU64 _ _ _ => []
  | .setI64 _ _ _ => []
  | .setF32 _ _ _ => []
  | .setF64 _ _ _ => []
  | .setStr _ _ _ => []
  | .crc16 _ => []
  | .startSubnet _ => [.tx]
  | .append _ _ _ _ => [.tx, .expect]
  | .endSubnet _ => [.tx]
  | .send _ => [.txOut]
  | .waitIrq _ _ _ => [.rx]
  | .mapBuild => [.ilcMap]
  | .parse _ _ => [.rxts, .afs, .hps, .expect, .ilcWarn, .log]
  | .reconcile _ => [.expect, .ilcWarn, .anyTimeout, .log]
  | .validateCrc _ _ => []
  | .fcEnable _ => [.components]
  | .fcDisable _ => [.components]
  | .fcApply _ _ _ _ => [.components]
  | .fcZero _ => [.components]
  | .fcUpdate _ => [.components, .err, .log]
  | .updateApplied => [.components, .err, .log]
  | .processApplied => [.finalStage, .momentCount, .err, .log]
  | .notify _ _ _ => [.err]
  | .notifyIlcTimeout => [.winIlc, .err]
  | .notifyFaFollowingError _ _ _ => [.winFe, .err]
  | .notifyHpMeasuredForce _ _ _ => [.winHpf, .err]
  | .notifyHpAirPressure _ _ _ => [.winHpa, .err]
  | .checkSafety _ => [.err, .errPub, .log]
  | .clearError => [.err]
  | .clearErrorCode => [.winIlc, .winFe, .winHpf, .winHpa, .trig, .momentCount, .err, .errPub]
  | .settingsLoad _ => [.cfg, .ilcMap, .tx, .rx, .rxts, .afs, .hps, .expect, .ilcWarn, .anyTimeout, .components, .finalStage,
      .momentCount, .err, .errPub, .winIlc, .winFe, .winHpf, .winHpa, .trig, .hpc]
  | .raiseStart _ _ => [.components, .raiseMachine, .pct, .hpc, .chase]
  | .raiseRunloop _ => [.components, .raiseMachine, .pct, .chase, .log]
  | .raiseCheckComplete _ => [.hpc]
  | .raiseComplete => [.components, .raiseMachine, .pct, .log]
  | .checkTimeout _ => [.raiseMachine, .err]
  | .timeout => [.raiseMachine, .err]
  | .pause _ => [.raiseMachine]
  | .resume _ => [.raiseMachine]
  | .rlReset => [.raiseMachine, .hpc]
  | .lowerStart _ => [.components, .raiseMachine, .hpc, .chase]
  | .lowerRunloop => [.components, .raiseMachine, .pct, .chase, .log]
  | .lowerCheckComplete => []
  | .lowerComplete => [.components, .raiseMachine, .pct, .chase]
  | .spInc => [.pct]
  | .spDec => [.pct]
  | .spZero => [.pct]
  | .spFill => [.pct]
  | .spFilled => []
  | .spZeroed => []
  | .hpcSample _ _ => [.hpc]
  | .hpcReset _ => [.hpc]
  | .hpcStatus _ => []
  | .faFeInTol => []
  | .hpForcesInTol _ => []
  | .reset => [.cfg, .ilcMap, .tx, .rx, .rxts, .afs, .hps, .expect, .ilcWarn, .anyTimeout, .components, .finalStage,
      .momentCount, .err, .errPub, .winIlc, .winFe, .winHpf, .winHpa, .trig, .raiseMachine, .pct, .hpc,
      .chase, .elev, .log]
  | .pullTelemetry _ => [.elev]
  | .reportServerID _ _ _ _ => [.expect, .ilcWarn, .log]
  | .reportServerStatus _ _ _ _ => [.expect, .ilcWarn, .log]
  | .changeMode _ _ _ _ => [.expect, .ilcWarn, .log]
  | .stepMotor _ _ _ _ => [.expect, .ilcWarn, .log]
  | .electromechanicalForceAndStatus _ _ _ _ => [.hps, .expect, .ilcWarn, .log]
  | .setBoostValveDCAGains _ _ _ _ => [.expect, .ilcWarn, .log]
  | .readBoostValveDCAGains _ _ _ _ => [.expect, .ilcWarn, .log]
  | .forceDemand _ _ _ _ => [.afs, .expect, .ilcWarn, .log]
  | .pneumaticForceStatus _ _ _ _ => [.afs, .expect, .ilcWarn, .log]
  | .setADCScanRate _ _ _ _ => [.expect, .ilcWarn, .log]
  | .setADCOffsetSensitivity _ _ _ _ => [.expect, .ilcWarn, .log]
  | .eraseApplication _ _ _ _ => [.expect, .ilcWarn, .log]
  | .writeApplication _ _ _ _ => [.expect, .ilcWarn, .log]
  | .verifyApplication _ _ _ _ => [.expect, .ilcWarn, .log]
  | .resetApplication _ _ _ _ => [.expect, .ilcWarn, .log]
  | .readCalibration _ _ _ _ => [.expect, .ilcWarn, .log]
  | .readDCAPressure _ _ _ _ => [.expect, .ilcWarn, .log]
  | .reportDCAID _ _ _ _ => [.expect, .ilcWarn, .log]
  | .reportDCAStatus _ _ _ _ => [.expect, .ilcWarn, .log]
  | .reportLVDT _ _ _ _ => [.expect, .ilcWarn, .log]
  | .exceptionResponse _ _ _ _ _ => [.expect, .ilcWarn, .log]

/-- The instructions that do not wait for the block to be configured (R16). -/
def ungated : Instr → Bool
  | .reset => true
  | .settingsLoad _ => true
  | .mapBuild => true
  | .pullTelemetry _ => true
  | _ => false

/-! ## Invariants -/

/-- The configuration: `MAP_BUILT` only with `CFG_LOADED`, and a loaded configuration is well-formed
(R8, R16, R326). -/
def ConfigInv (s : State) : Prop :=
  (s.mapBuilt = true → s.cfgLoaded = true) ∧ (s.cfgLoaded = true → cfgOk s.cfg = true)

/-- The map: in its canonical form, address 255 never owned, nothing mapped before `MAP_BUILD`, and no
two addresses owned by one actuator (R28, R210). -/
def MapInv (s : State) : Prop :=
  (∀ n, mapWf (s.frame.ilcMap.get n) = true) ∧
    (∀ n c, c ∈ s.frame.ilcMap.get n → c.address ≤ 254) ∧
    (s.mapBuilt = false → ∀ n, s.frame.ilcMap.get n = []) ∧
    ∀ n m c d, c ∈ s.frame.ilcMap.get n → d ∈ s.frame.ilcMap.get m →
      c.entry.actuatorId = d.entry.actuatorId → n = m ∧ c = d

/-- The form of a batch on a subnet: none yet; an open one, its header written; or a closed one, its
length byte counting the cells between header and `TriggerIrq` (R114, R123, R186). -/
def batchForm (n : Subnet) (b : TxBatch) : Prop :=
  b = TxBatch.init ∨
    (b.opened = true ∧ b.start = 3 ∧ ∃ body, b.cells = batchHeader n ++ body) ∨
    (b.opened = false ∧ b.start = 3 ∧ ∃ body, body.length ≤ 255 ∧
      b.cells = [Cell.data n.number, Cell.data (BitVec.ofNat 8 body.length), Cell.swTrigger] ++ body ++
        [Cell.triggerIrq])

/-- The buffers: every batch in form and within `cfg.txCap`, with room for the `TriggerIrq` cell while it
is open; at most one open; every RX buffer within `cfg.rxCap` (R29, R30, R181, R184). -/
def BatchInv (s : State) : Prop :=
  (∀ n, batchForm n (s.frame.tx.get n)) ∧
    (∀ n, (s.frame.tx.get n).len ≤ s.cfg.frame.txCap) ∧
    (∀ n, (s.frame.tx.get n).opened = true → (s.frame.tx.get n).len + 1 ≤ s.cfg.frame.txCap) ∧
    (∀ n m, (s.frame.tx.get n).opened = true → (s.frame.tx.get m).opened = true → n = m) ∧
    ∀ n, (s.frame.rx.get n).length ≤ s.cfg.frame.rxCap

/-- A component's arrays have the sizes of R43. -/
def Component.shaped (c : PlantCfg) (v : Component) : Prop :=
  Tri.shaped c v.current = true ∧ Tri.shaped c v.target = true ∧ Tri.shaped c v.offset = true ∧
    Tri.shaped c v.preclipped = true ∧ Tri.shaped c v.applied = true ∧ Tri.shaped c v.clipWarn = true

/-- The sizes of the arrays of FRAME and FORCE (R32, R34, R43, R44, R45). -/
def ArraySizes (s : State) : Prop :=
  s.frame.afs.length = s.cfg.plant.nFA ∧ s.frame.expectFa.length = s.cfg.plant.nFA ∧
    (∀ c, (s.force.fc.get c).shaped s.cfg.plant) ∧
    Tri.shaped s.cfg.plant s.force.fin.preclipped = true ∧
    Tri.shaped s.cfg.plant s.force.fin.applied = true ∧
    Tri.shaped s.cfg.plant s.force.fin.clipWarn = true ∧
    s.force.fin.primarySet.length = s.cfg.plant.nFA ∧ s.force.fin.secondarySet.length = s.cfg.plant.nFA

/-- The sizes of the windows and of `TRIG` (R52, R53). -/
def WindowSizes (s : State) : Prop :=
  s.safety.winIlc.length = s.cfg.safety.winPeriod.ilc ∧
    s.safety.winFe.length = s.cfg.plant.nFA ∧
    (∀ w, w ∈ s.safety.winFe → w.length = s.cfg.safety.winPeriod.fe) ∧
    (∀ h, (s.safety.winHpf.get h).length = s.cfg.safety.winPeriod.hpf) ∧
    (∀ h, (s.safety.winHpa.get h).length = s.cfg.safety.winPeriod.hpa) ∧
    s.safety.trig.length = s.cfg.safety.nTrig

/-- The warning register and the clip flags: at most one cause, and every roll-up the OR of its members
(R35, R44, R45, R402). -/
def RollUpInv (s : State) : Prop :=
  s.frame.ilcWarn.causes.countP id ≤ 1 ∧
    s.frame.ilcWarn.anyWarning = s.frame.ilcWarn.causes.any id ∧
    (∀ c, (s.force.fc.get c).anyClip = anyFlag (s.force.fc.get c).clipWarn) ∧
    s.force.fin.anyClip = anyFlag s.force.fin.clipWarn

/-- What an error code register may hold (R50, R312): an enabled code with a report of at most
`cfg.reportMax` bytes, or nothing. -/
def ErrorReg.ok (c : SafetyCfg) (r : ErrorReg) : Prop :=
  r = ErrorReg.init ∨
    (r.code ≠ .noFault ∧ c.faultEnabled.contains r.code = true ∧ r.report.length ≤ c.reportMax)

/-- `ERR` and `ERRPUB` (R50, R51). -/
def LatchInv (s : State) : Prop := s.safety.err.ok s.cfg.safety ∧ s.safety.errPub.ok s.cfg.safety

/-- `0 ≤ PCT ≤ 100` (R57). -/
def PctInv (s : State) : Prop := f64Le 0 s.raise.pct = true ∧ f64Le s.raise.pct f64Hundred = true

/-- The deadline: NaN unless running (R353), and then `SEGSTART + REMAIN` (R356). -/
def DeadlineInv (s : State) : Prop :=
  (s.raise.rstate ≠ .running → f64IsNaN s.raise.deadline = true) ∧
    (s.raise.rstate = .running → s.raise.deadline = f64Add s.raise.segStart s.raise.remain)

/-- Every element is +0.0. -/
def Tri.zero (t : Tri F32) : Bool := t.all (fun v => v == 0)

/-- The components: a `Disabled` one holds exact zeros and no flag (R274), a `Disabling` or `Disabled`
one has zero targets (R263), `offset` is never written (R43); and no `TRIG` is ever set (R53). -/
def QuietInv (s : State) : Prop :=
  (∀ c, (s.force.fc.get c).state = .disabled →
      Tri.zero (s.force.fc.get c).current = true ∧ Tri.zero (s.force.fc.get c).preclipped = true ∧
        Tri.zero (s.force.fc.get c).applied = true ∧ anyFlag (s.force.fc.get c).clipWarn = false) ∧
    (∀ c, (s.force.fc.get c).state = .disabling ∨ (s.force.fc.get c).state = .disabled →
      Tri.zero (s.force.fc.get c).target = true) ∧
    (∀ c, Tri.zero (s.force.fc.get c).offset = true) ∧
    ∀ b, b ∈ s.safety.trig → b = false

/-- The component forces held in state are finite (R267). -/
def FiniteInv (s : State) : Prop :=
  ∀ c, (s.force.fc.get c).target.all f32IsFinite = true ∧
    (s.force.fc.get c).current.all f32IsFinite = true ∧
    (s.force.fc.get c).preclipped.all f32IsFinite = true ∧
    (s.force.fc.get c).applied.all f32IsFinite = true

/-! ## Terms of the statements -/

/-- The operation codes R140 assigns. -/
def assignedCodes : List Nat :=
  (List.range 11) ++ (List.range 11).map (fun k => 0x10 + k) ++
    [0x1F, 0x20, 0x21, 0x22, 0x24, 0x25, 0x30, 0x31, 0x32, 0x33, 0x40, 0x41, 0x42, 0x43, 0x44, 0x45, 0x46,
      0x50, 0x51, 0x52, 0x53, 0x54, 0x58, 0x59, 0x5A, 0x5E, 0x60, 0x61, 0x62, 0x63, 0x64, 0x65, 0x66, 0x67,
      0x68, 0x69, 0x6A, 0x6B, 0x6C, 0x70, 0x71, 0x72, 0x73, 0x74, 0x75, 0x78, 0x79, 0x7A, 0x7C, 0x7D, 0x80,
      0x81]

/-- Cells with some bytes written at a position, the others as they were (R85). -/
def storedAt (buf : List Cell) (cur : Nat) (bs : List Byte) : List Cell :=
  buf.take cur ++ bs.map Cell.data ++ buf.drop (cur + bs.length)

/-- The `n` bytes of a value, bits 8k+7 to 8k of it, `k` from the greatest to 0 (R125). -/
def bytesOf {w : Nat} (n : Nat) (v : BitVec w) : List Byte :=
  (List.range n).map (fun k => v.extractLsb' (8 * (n - 1 - k)) 8)

/-- The reads of fixed width, with their widths (R152 to R161). -/
def fixedReads : List ((List Cell → Nat → Instr) × Nat) :=
  [(.getU8, 1), (.getI8, 1), (.getU16, 2), (.getI16, 2), (.getU32, 4), (.getI32, 4), (.getU64, 8),
    (.getI64, 8), (.getF32, 4), (.getF64, 8)]

/-- A write and a read of one type agree: what `set` writes, `get` reads back, with the same cursor after
(R175). -/
def Agrees (set get : List Cell → Nat → Instr) (v : CodecValue) : Prop :=
  ∀ (s : State) (buf buf' : List Cell) (cur cur' : Nat), s.ready = true →
    exec (set buf cur) s = .next (s.respond .ok (.written buf' cur')) →
    exec (get buf' cur) s = .next (s.respond .ok (.read v cur'))

/-- The response frames of the function codes that write no register but the counter (R220 to R223,
R225, R226, R229 to R239). -/
def plainResponses (sub a : Byte) (p : List Byte) (ts : U64) : List (Instr × FnCode) :=
  [(.reportServerID sub a p ts, .reportServerID), (.reportServerStatus sub a p ts, .reportServerStatus),
    (.changeMode sub a p ts, .changeMode), (.stepMotor sub a p ts, .stepMotor),
    (.setBoostValveDCAGains sub a p ts, .setBoostValveDCAGains),
    (.readBoostValveDCAGains sub a p ts, .readBoostValveDCAGains),
    (.setADCScanRate sub a p ts, .setADCScanRate),
    (.setADCOffsetSensitivity sub a p ts, .setADCOffsetSensitivity),
    (.eraseApplication sub a p ts, .eraseApplication), (.writeApplication sub a p ts, .writeApplication),
    (.verifyApplication sub a p ts, .verifyApplication), (.resetApplication sub a p ts, .resetApplication),
    (.readCalibration sub a p ts, .readCalibration), (.readDCAPressure sub a p ts, .readDCAPressure),
    (.reportDCAID sub a p ts, .reportDCAID), (.reportDCAStatus sub a p ts, .reportDCAStatus),
    (.reportLVDT sub a p ts, .reportLVDT)]

/-- The response frames of functions 75 and 76 (R227, R228). -/
def forceResponses (sub a : Byte) (p : List Byte) (ts : U64) : List (Instr × FnCode) :=
  [(.forceDemand sub a p ts, .forceDemand), (.pneumaticForceStatus sub a p ts, .pneumaticForceStatus)]

/-- The response frames of all twenty function codes. -/
def allResponses (sub a : Byte) (p : List Byte) (ts : U64) : List (Instr × FnCode) :=
  (.electromechanicalForceAndStatus sub a p ts, .electromechanicalForceAndStatus) ::
    (forceResponses sub a p ts ++ plainResponses sub a p ts)

/-- The words of an RX batch after its timestamp, cut into frames and the words left over (R117, R213): a
frame is words that are no delimiter, then its delimiters, then its end marker; where the end marker is
missing, the word that follows is neither a delimiter nor an end marker. -/
def rxFrames (c : Cfg) : List (List Word16 × List Word16) → List Word16 → Prop
  | [], rest => ∀ x, x ∈ rest → (classify c x).isDelim = false
  | f :: fs, rest =>
    (∀ x, x ∈ f.1 → (classify c x).isDelim = false) ∧
      (∃ ds m, f.2 = ds ++ m ∧ ds ≠ [] ∧ (∀ d, d ∈ ds → (classify c d).isDelim = true) ∧
        ((∃ x, m = [x] ∧ (classify c x).isEof = true) ∨
          (m = [] ∧ ∀ x, (fs.flatMap (fun g => g.1 ++ g.2) ++ rest).head? = some x →
            (classify c x).isDelim = false ∧ (classify c x).isEof = false))) ∧
      rxFrames c fs rest

/-- What `PARSE` does with one frame of an RX batch (R212): one warning, or the frame's own effect and
one more frame decoded. -/
def frameRun (sub : Byte) (ts : U64) (r : State × Nat) (f : List Word16 × List Word16) : State × Nat :=
  match crcVerdict (f.1.map (rxDataByte r.1.cfg.tables)) with
  | (.good, body) => ((r.1.goodFrame sub body ts).1, r.2 + (r.1.goodFrame sub body ts).2)
  | (.badCrc, _) => (r.1.emit .invalidCRC (-1) ts, r.2)
  | _ => (r.1.emit .invalidLength (-1) ts, r.2)

/-- What `MAP_BUILD` asks of the actuator table (R210): every row on a subnet at an address below 255
with a type, no address and no actuator twice. -/
def tableOk (l : List ActuatorRow) : Prop :=
  (∀ r, r ∈ l → 1 ≤ r.subnet.toNat ∧ r.subnet.toNat ≤ 5 ∧ r.address.toNat ≤ 254 ∧ r.entry.type ≠ .unknown) ∧
    (l.map (fun r => (r.subnet, r.address))).Nodup ∧ (l.map (fun r => r.entry.actuatorId)).Nodup

/-- The latch after some notifications in order, from their codes, flags and reports: the first
enabled one whose flag is true, if the latch was free (R312, R387). -/
def latchFirst (c : SafetyCfg) (r : ErrorReg) (l : List (FaultCode × Bool × List Byte)) : ErrorReg :=
  if r.code ≠ .noFault then r
  else
    match l.find? (fun p => p.2.1 && c.faultEnabled.contains p.1) with
    | some p => ⟨p.1, p.2.2.take c.reportMax⟩
    | none => r

/-- `NOTIFY_ILC_TIMEOUT` once for each sample, `ANY_TIMEOUT` being that sample when it is called (R316). -/
def ilcSamples : List Bool → State → Host.Outcome State Fault Refusal
  | [], s => .next s
  | b :: rest, s =>
    match exec .notifyIlcTimeout (s.setAnyTimeout b) with
    | .next t => ilcSamples rest t
    | .fault r => .fault r
    | .refused r => .refused r

/-- `(RSTATE, RDIR)` after an operation that answered `OK` (R341): the operations not listed in its
table leave it. -/
def raiseAfter (i : Instr) (p : RaiseState × RaiseDir) : RaiseState × RaiseDir :=
  match i with
  | .raiseStart _ _ => (.running, .raise)
  | .lowerStart _ => (.running, .lower)
  | .raiseComplete => (.complete, p.2)
  | .lowerComplete => (.idle, p.2)
  | .pause _ => (.paused, p.2)
  | .resume _ => (.running, p.2)
  | .rlReset => (.idle, p.2)
  | .reset => (.idle, .raise)
  | _ => p

/-- The operations that free the latch (R322, R323, R324, R420). -/
def freesLatch : Instr → Bool
  | .checkSafety _ => true
  | .clearError => true
  | .clearErrorCode => true
  | .reset => true
  | _ => false

end Sys2Proof.Machine
end

