-- ==== Sys2Proof/Certificates/Slice0/Obligations.lean ====
section
/-! DEFINITION. The statements for the provers. An equation `exec i s = .next t` says that the instruction
completes and what it leaves in every register: `t` is `s` with the updates written in it and nothing
else, so it is also the instruction's frame. -/

open Sys2Proof Sys2Proof.Machine

/-! ## Decoding, and the step -/

/-- Sanity: a few records and response frames, written out from R126, R127, R140 and the port layout
(notes/assumptions/1.md), decode to the instruction they stand for. -/
def Obligations.DecodeSampleWords : Prop :=
  decodeInput (.command [0x1F, 0x00, 0x00, 0x00, 0x02, 0x01, 0x11]) = .ok (.crc16 [0x01, 0x11]) ∧
    decodeInput (.command [0x20, 0x03]) = .ok (.startSubnet 3) ∧
    decodeInput (.command [0x31, 0x06, 0x01, 0x01]) = .ok (.parse 6 (some 1)) ∧
    decodeInput (.command [0x44, 0x08]) = .ok (.fcUpdate 8) ∧
    decodeInput (.command [0x5A]) = .ok .clearErrorCode ∧
    decodeInput (.command [0x66, 0x40, 0x91, 0x30, 0x00, 0x00, 0x00, 0x00, 0x00]) =
      .ok (.pause 0x4091300000000000) ∧
    decodeInput (.command [0x80]) = .ok .reset ∧
    decodeInput (.response 1 7 [0x05, 0x4C, 0x00, 0x00, 0x27, 0x10]) =
      .ok (.pneumaticForceStatus 1 5 [0x00, 0x00, 0x27, 0x10] 7) ∧
    decodeInput (.response 1 7 [0x05, 0xCB, 0x01]) = .ok (.exceptionResponse 1 5 75 [0x01] 7)

/-- A step takes the next input and runs the instruction it decodes to; with no input it waits. The input
queue is the model's own (notes/assumptions/3.md). -/
def Obligations.StepRunsDecodedInstruction : Prop :=
  (∀ (s : State) (x : Input) (rest : List Input) (i : Instr),
      s.inputs = x :: rest → decodeInput x = .ok i → step s = exec i { s with inputs := rest }) ∧
    ∀ s : State, s.inputs = [] → step s = .next s

/-- What a step does with an input that is no instruction: the reset pin resets without a response, an
interrupt pulse nobody waits for is lost, a response frame with a function byte outside the catalogue is
looked up and, at a mapped address, reported as `unknownFunction`. The model's choice: what `rst_n` keeps of
the ports (notes/assumptions/18.md, 20.md), a pulse by itself (21.md), and a response frame presented by
itself, its gate and its answer (5.md). -/
def Obligations.StepOnOtherInputs : Prop :=
  (∀ (s : State) (rest : List Input), s.inputs = .rstN :: rest →
      step s = .next { State.reset with txOut := s.txOut, inputs := rest }) ∧
    (∀ (s : State) (n : Subnet) (rest : List Input), s.inputs = .irq n :: rest →
      step s = .next { s with inputs := rest }) ∧
    ∀ (s : State) (rest : List Input) (n : Subnet) (a g : Byte) (p : List Byte) (ts : U64),
      s.inputs = .response n.number ts (a :: g :: p) :: rest → s.ready = true → g.toNat < 128 →
      FnCode.ofByte g = none → (mapGet (s.frame.ilcMap.get n) a.toNat).type ≠ .unknown →
      step s = .next (({ s with inputs := rest }.emit .unknownFunction
        (mapGet (s.frame.ilcMap.get n) a.toNat).actuatorId ts).respond .ok (.frames 0))

/-- Decode and encode agree: every well-formed instruction, with every operand at every value its record
admits, is what its encoding decodes to. The codes are R126, R127 and R140; the bytes of a record and the
bound on a `nat` operand are the model's choice, R24 giving none (notes/assumptions/1.md). -/
def Obligations.RoundTrip : Prop :=
  ∀ i : Instr, wellFormed i = true → decodeInput (encode i) = .ok i

/-! ## Every instruction -/

/-- Every operation answers with one response, and an operation that answers with a status other than
`OK` has written nothing (R12). The answer to a response frame presented by itself is the model's choice
(notes/assumptions/5.md). -/
def Obligations.EveryOperationAnswers : Prop :=
  ∀ (i : Instr) (s : State), ∃ t r, exec i s = .next t ∧ t.rsp = some r ∧
    (r.status ≠ .ok → t = { s with rsp := some r })

/-- Before `SETTINGS_LOAD` and `MAP_BUILD` have succeeded every instruction but `RESET`,
`SETTINGS_LOAD`, `MAP_BUILD` and `PULL_TELEMETRY` answers `NOT_CONFIGURED` and changes nothing; an
unassigned operation code answers `BAD_OPERAND` in every state (R16, R140). That the gate holds of a
response frame presented by itself, and that the answer carries no data, are the model's choice
(notes/assumptions/5.md, 32.md). -/
def Obligations.NotConfiguredBeforeSetup : Prop :=
  (∀ (i : Instr) (s : State), ungated i = false → (s.cfgLoaded = false ∨ s.mapBuilt = false) →
    exec i s = .next (s.respond .notConfigured .none)) ∧
  ∀ (s : State) (op : Byte) (args : List Byte) (rest : List Input),
    s.inputs = .command (op :: args) :: rest → op.toNat ∉ assignedCodes →
    step s = .next (State.respond { s with inputs := rest } .badOperand .none)

/-- The frame of every instruction: a part of the state that is not among those its rule writes holds
what it held (R393), and `LOG` is append-only, but for `RESET` (R40). -/
def Obligations.FrameOfEveryInstruction : Prop :=
  ∀ (i : Instr) (s t : State), exec i s = .next t →
    (∀ p, p ∉ writable i → s.same t p) ∧ (i ≠ .reset → ∃ es, t.log = s.log ++ es)

/-! ## Invariants that every step keeps -/

/-- A loaded configuration is well-formed, and the map is built only over a loaded one (R8, R326). -/
def Obligations.ConfigKept : Prop :=
  ∀ s t : State, ConfigInv s → step s = .next t → ConfigInv t

/-- The map keeps its form, and no actuator ever owns two addresses (R28, R210). The canonical form of the
list that holds it is the model's choice of representation (notes/assumptions/30.md). -/
def Obligations.MapKept : Prop := ∀ s t : State, MapInv s → step s = .next t → MapInv t

/-- The buffers keep their form: one batch open at a time, a closed batch's length byte right, every
length within its capacity (R181, R184, R186). -/
def Obligations.BatchesKept : Prop := ∀ s t : State, BatchInv s → step s = .next t → BatchInv t

/-- The arrays of FRAME and FORCE keep the sizes the configuration gives them, and every window the
length of its period (R43, R52). -/
def Obligations.SizesKept : Prop :=
  ∀ s t : State, ConfigInv s → step s = .next t →
    (ArraySizes s → ArraySizes t) ∧ (WindowSizes s → WindowSizes t)

/-- `ILCWARN` and the clip flags: at most one warning cause is set, and `anyWarning` and each `anyClip` are
the OR of their members (R35, R44, R45). The fourth roll-up of R402, `ANY_TIMEOUT`, is in `Reconcile`. -/
def Obligations.RollUpsKept : Prop := ∀ s t : State, RollUpInv s → step s = .next t → RollUpInv t

/-- The latch and its copy hold nothing, or an enabled fault with a report within `cfg.reportMax`
(R50, R312). -/
def Obligations.LatchKept : Prop := ∀ s t : State, LatchInv s → step s = .next t → LatchInv t

/-- `0 ≤ PCT ≤ 100` (R57); and the deadline is NaN unless running, and then the segment's start plus the
remaining budget (R353, R356). -/
def Obligations.PercentAndDeadlineKept : Prop :=
  ∀ s t : State, step s = .next t →
    (ConfigInv s → PctInv s → PctInv t) ∧ (DeadlineInv s → DeadlineInv t)

/-- A disabled component holds exact zeros, a ramping one has zero targets, `offset` and `TRIG` are never
written (R43, R53, R263, R274); and the forces a component holds (target, current, preclipped, applied) stay
finite (R267). -/
def Obligations.ComponentsKept : Prop :=
  ∀ s t : State, step s = .next t →
    (QuietInv s → QuietInv t) ∧ (ConfigInv s → FiniteInv s → FiniteInv t)

/-- Every invariant holds after reset. Where the arrays that the configuration sizes are empty then, that is
the model's choice (notes/assumptions/4.md). -/
def Obligations.ResetMeetsInvariants : Prop :=
  ConfigInv State.reset ∧ MapInv State.reset ∧ BatchInv State.reset ∧ ArraySizes State.reset ∧
    WindowSizes State.reset ∧ RollUpInv State.reset ∧ LatchInv State.reset ∧ PctInv State.reset ∧
    DeadlineInv State.reset ∧ QuietInv State.reset ∧ FiniteInv State.reset

/-! ## Binary Codec -/

/-- The reads of fixed width, on a buffer that holds data bytes at the cursor: unsigned and signed
integers big-endian, floats in the order of `cfg.floatOrder`, the cursor past them (R125, R151 to
R161). `GET_U8`, `GET_I8`, `GET_U16`, `GET_I16`, `GET_U32`, `GET_I32`, `GET_U64`, `GET_I64`, `GET_F32`,
`GET_F64`. -/
def Obligations.FixedWidthReads : Prop :=
  ∀ (s : State) (pre post : List Cell), s.ready = true →
    (∀ b0 : Byte,
      exec (.getU8 (pre ++ .data b0 :: post) pre.length) s =
        .next (s.respond .ok (.read (.unsigned b0.toNat) (pre.length + 1))) ∧
      exec (.getI8 (pre ++ .data b0 :: post) pre.length) s =
        .next (s.respond .ok (.read (.signed b0.toInt) (pre.length + 1)))) ∧
    (∀ b0 b1 : Byte,
      exec (.getU16 (pre ++ .data b0 :: .data b1 :: post) pre.length) s =
        .next (s.respond .ok (.read (.unsigned (b0 ++ b1).toNat) (pre.length + 2))) ∧
      exec (.getI16 (pre ++ .data b0 :: .data b1 :: post) pre.length) s =
        .next (s.respond .ok (.read (.signed (b0 ++ b1).toInt) (pre.length + 2)))) ∧
    (∀ b0 b1 b2 b3 : Byte,
      exec (.getU32 (pre ++ .data b0 :: .data b1 :: .data b2 :: .data b3 :: post) pre.length) s =
        .next (s.respond .ok (.read (.unsigned (b0 ++ b1 ++ b2 ++ b3).toNat) (pre.length + 4))) ∧
      exec (.getI32 (pre ++ .data b0 :: .data b1 :: .data b2 :: .data b3 :: post) pre.length) s =
        .next (s.respond .ok (.read (.signed (b0 ++ b1 ++ b2 ++ b3).toInt) (pre.length + 4))) ∧
      exec (.getF32 (pre ++ .data b0 :: .data b1 :: .data b2 :: .data b3 :: post) pre.length) s =
        .next (s.respond .ok (.read (.f32 (match s.cfg.frame.floatOrder with
          | .big => b0 ++ b1 ++ b2 ++ b3
          | .little => b3 ++ b2 ++ b1 ++ b0)) (pre.length + 4)))) ∧
    ∀ b0 b1 b2 b3 b4 b5 b6 b7 : Byte,
      let buf := pre ++ .data b0 :: .data b1 :: .data b2 :: .data b3 :: .data b4 :: .data b5 ::
        .data b6 :: .data b7 :: post
      exec (.getU64 buf pre.length) s =
        .next (s.respond .ok (.read (.unsigned (b0 ++ b1 ++ b2 ++ b3 ++ b4 ++ b5 ++ b6 ++ b7).toNat)
          (pre.length + 8))) ∧
      exec (.getI64 buf pre.length) s =
        .next (s.respond .ok (.read (.signed (b0 ++ b1 ++ b2 ++ b3 ++ b4 ++ b5 ++ b6 ++ b7).toInt)
          (pre.length + 8))) ∧
      exec (.getF64 buf pre.length) s =
        .next (s.respond .ok (.read (.f64 (match s.cfg.frame.floatOrder with
          | .big => b0 ++ b1 ++ b2 ++ b3 ++ b4 ++ b5 ++ b6 ++ b7
          | .little => b7 ++ b6 ++ b5 ++ b4 ++ b3 ++ b2 ++ b1 ++ b0)) (pre.length + 8)))

/-- The writes of fixed width, where the buffer has room: the bytes big-endian, two's complement for the
signed types, floats in the order of `cfg.floatOrder`; every other cell as it was; the cursor past them
(R125, R151, R163 to R172). `SET_U8`, `SET_I8`, `SET_U16`, `SET_I16`, `SET_U32`, `SET_I32`, `SET_U64`,
`SET_I64`, `SET_F32`, `SET_F64`. -/
def Obligations.FixedWidthWrites : Prop :=
  ∀ (s : State) (buf : List Cell) (cur : Nat), s.ready = true →
    (cur + 1 ≤ buf.length →
      (∀ v : BitVec 8, exec (.setU8 buf cur v) s =
        .next (s.respond .ok (.written (storedAt buf cur (bytesOf 1 v)) (cur + 1)))) ∧
      ∀ v : Int, exec (.setI8 buf cur v) s = .next (s.respond .ok
        (.written (storedAt buf cur (bytesOf 1 (BitVec.ofInt 8 v))) (cur + 1)))) ∧
    (cur + 2 ≤ buf.length →
      (∀ v : BitVec 16, exec (.setU16 buf cur v) s =
        .next (s.respond .ok (.written (storedAt buf cur (bytesOf 2 v)) (cur + 2)))) ∧
      ∀ v : Int, exec (.setI16 buf cur v) s = .next (s.respond .ok
        (.written (storedAt buf cur (bytesOf 2 (BitVec.ofInt 16 v))) (cur + 2)))) ∧
    (cur + 4 ≤ buf.length →
      (∀ v : BitVec 32, exec (.setU32 buf cur v) s =
        .next (s.respond .ok (.written (storedAt buf cur (bytesOf 4 v)) (cur + 4)))) ∧
      (∀ v : Int, exec (.setI32 buf cur v) s = .next (s.respond .ok
        (.written (storedAt buf cur (bytesOf 4 (BitVec.ofInt 32 v))) (cur + 4)))) ∧
      ∀ v : F32, exec (.setF32 buf cur v) s = .next (s.respond .ok
        (.written (storedAt buf cur (match s.cfg.frame.floatOrder with
          | .big => bytesOf 4 v
          | .little => (bytesOf 4 v).reverse)) (cur + 4)))) ∧
    (cur + 8 ≤ buf.length →
      (∀ v : BitVec 64, exec (.setU64 buf cur v) s =
        .next (s.respond .ok (.written (storedAt buf cur (bytesOf 8 v)) (cur + 8)))) ∧
      (∀ v : Int, exec (.setI64 buf cur v) s = .next (s.respond .ok
        (.written (storedAt buf cur (bytesOf 8 (BitVec.ofInt 64 v))) (cur + 8)))) ∧
      ∀ v : F64, exec (.setF64 buf cur v) s = .next (s.respond .ok
        (.written (storedAt buf cur (match s.cfg.frame.floatOrder with
          | .big => bytesOf 8 v
          | .little => (bytesOf 8 v).reverse)) (cur + 8))))

/-- `GET_STR` and `SET_STR` (R162, R173): the length as a big-endian `I32`, then the bytes. Refused, with
buffer and cursor unchanged: a prefix or a string that is not whole in the buffer or holds a cell that is
not a data cell (R84), a negative length; a string without room or longer than an `I32` can say. What an
error carries beside its status is the model's choice where the rules give no position
(notes/assumptions/14.md). -/
def Obligations.Strings : Prop :=
  ∀ s : State, s.ready = true →
    (∀ (pre post : List Cell) (v : List Byte), v.length < 2 ^ 31 →
      let buf := pre ++ ((bytesOf 4 (BitVec.ofNat 32 v.length) ++ v).map Cell.data ++ post)
      exec (.getStr buf pre.length) s =
        .next (s.respond .ok (.read (.str v) (pre.length + 4 + v.length)))) ∧
    (∀ (pre post : List Cell) (n : BitVec 32),
      let buf := pre ++ ((bytesOf 4 n).map Cell.data ++ post)
      (n.msb = true → exec (.getStr buf pre.length) s =
        .next (s.respond .decodeError (.codecError none buf pre.length))) ∧
      (n.msb = false →
          (post.length < n.toNat ∨
            ∃ (k : Nat) (c : Cell), k < n.toNat ∧ post[k]? = some c ∧ ∀ b, c ≠ .data b) →
          exec (.getStr buf pre.length) s =
        .next (s.respond .decodeError (.codecError (some (pre.length + 4, n.toNat)) buf pre.length)))) ∧
    ∀ (buf : List Cell) (cur : Nat) (v : List Byte),
      (buf.length < cur + 4 ∨
          (∃ (k : Nat) (c : Cell), cur ≤ k ∧ k < cur + 4 ∧ buf[k]? = some c ∧ ∀ b, c ≠ .data b) →
        exec (.getStr buf cur) s =
        .next (s.respond .decodeError (.codecError (some (cur, 4)) buf cur))) ∧
      (v.length < 2 ^ 31 → cur + 4 + v.length ≤ buf.length →
        exec (.setStr buf cur v) s = .next (s.respond .ok (.written
          (storedAt buf cur (bytesOf 4 (BitVec.ofNat 32 v.length) ++ v)) (cur + 4 + v.length)))) ∧
      (2 ^ 31 ≤ v.length ∨ buf.length < cur + 4 + v.length →
        exec (.setStr buf cur v) s = .next (s.respond .encodeError (.codecError none buf cur)))

/-- An access past the end of the buffer, and a read of a cell that is not a data cell, is refused with
its position and width, buffer and cursor unchanged (R84, R85, R151). -/
def Obligations.CodecBounds : Prop :=
  ∀ (s : State) (buf : List Cell) (cur : Nat), s.ready = true →
    (∀ r, r ∈ fixedReads →
      (buf.length < cur + r.2 ∨
        ∃ (k : Nat) (c : Cell), cur ≤ k ∧ k < cur + r.2 ∧ buf[k]? = some c ∧ ∀ b, c ≠ .data b) →
      exec (r.1 buf cur) s =
        .next (s.respond .decodeError (.codecError (some (cur, r.2)) buf cur))) ∧
    (buf.length < cur + 1 → ∀ (v : BitVec 8) (k : Int),
      exec (.setU8 buf cur v) s = .next (s.respond .encodeError (.codecError (some (cur, 1)) buf cur)) ∧
      exec (.setI8 buf cur k) s = .next (s.respond .encodeError (.codecError (some (cur, 1)) buf cur))) ∧
    (buf.length < cur + 2 → ∀ (v : BitVec 16) (k : Int),
      exec (.setU16 buf cur v) s = .next (s.respond .encodeError (.codecError (some (cur, 2)) buf cur)) ∧
      exec (.setI16 buf cur k) s = .next (s.respond .encodeError (.codecError (some (cur, 2)) buf cur))) ∧
    (buf.length < cur + 4 → ∀ (v : BitVec 32) (k : Int),
      exec (.setU32 buf cur v) s = .next (s.respond .encodeError (.codecError (some (cur, 4)) buf cur)) ∧
      exec (.setI32 buf cur k) s = .next (s.respond .encodeError (.codecError (some (cur, 4)) buf cur)) ∧
      exec (.setF32 buf cur v) s = .next (s.respond .encodeError (.codecError (some (cur, 4)) buf cur))) ∧
    (buf.length < cur + 8 → ∀ (v : BitVec 64) (k : Int),
      exec (.setU64 buf cur v) s = .next (s.respond .encodeError (.codecError (some (cur, 8)) buf cur)) ∧
      exec (.setI64 buf cur k) s = .next (s.respond .encodeError (.codecError (some (cur, 8)) buf cur)) ∧
      exec (.setF64 buf cur v) s = .next (s.respond .encodeError (.codecError (some (cur, 8)) buf cur)))

/-- The round-trip law of the codec, for every type and every value, for either float order; floats are
compared by their bits (R175). -/
def Obligations.CodecRoundTrip : Prop :=
  (∀ v : BitVec 8, Agrees (fun b c => .setU8 b c v) .getU8 (.unsigned v.toNat)) ∧
    (∀ v : BitVec 16, Agrees (fun b c => .setU16 b c v) .getU16 (.unsigned v.toNat)) ∧
    (∀ v : BitVec 32, Agrees (fun b c => .setU32 b c v) .getU32 (.unsigned v.toNat)) ∧
    (∀ v : BitVec 64, Agrees (fun b c => .setU64 b c v) .getU64 (.unsigned v.toNat)) ∧
    (∀ v : BitVec 8, Agrees (fun b c => .setI8 b c v.toInt) .getI8 (.signed v.toInt)) ∧
    (∀ v : BitVec 16, Agrees (fun b c => .setI16 b c v.toInt) .getI16 (.signed v.toInt)) ∧
    (∀ v : BitVec 32, Agrees (fun b c => .setI32 b c v.toInt) .getI32 (.signed v.toInt)) ∧
    (∀ v : BitVec 64, Agrees (fun b c => .setI64 b c v.toInt) .getI64 (.signed v.toInt)) ∧
    (∀ v : F32, Agrees (fun b c => .setF32 b c v) .getF32 (.f32 v)) ∧
    (∀ v : F64, Agrees (fun b c => .setF64 b c v) .getF64 (.f64 v)) ∧
    ∀ v : List Byte, Agrees (fun b c => .setStr b c v) .getStr (.str v)

/-- `CRC16` answers the CRC; a good frame's residue is 0; a frame with one byte changed and its CRC field
kept is `BadCrc` (R120, R122, R174, R213). -/
def Obligations.CrcDetectsOneByte : Prop :=
  (∀ (s : State) (bs : List Byte), s.ready = true →
      exec (.crc16 bs) s = .next (s.respond .ok (.crc (crc16 bs)))) ∧
    (∀ bs : List Byte, crc16 (bs ++ crcField (crc16 bs)) = 0) ∧
    ∀ (pre post : List Byte) (b c : Byte), b ≠ c → 2 ≤ (pre ++ b :: post).length →
      crcVerdict (pre ++ b :: post ++ crcField (crc16 (pre ++ b :: post))) =
        (.good, pre ++ b :: post) ∧
      crcVerdict (pre ++ c :: post ++ crcField (crc16 (pre ++ b :: post))) = (.badCrc, [])

/-- A mixed-width access sees the same bytes (R98): a `u16` read at the position of a written `u32` is
its upper half, a `u8` three bytes on its lowest byte; a `u32` read at the position of a written float is
its bits, or its bits byte-reversed, by `cfg.floatOrder`. -/
def Obligations.MixedWidthAccess : Prop :=
  ∀ (s : State) (buf buf' : List Cell) (p q : Nat) (v : BitVec 32), s.ready = true →
    (exec (.setU32 buf p v) s = .next (s.respond .ok (.written buf' q)) →
      exec (.getU16 buf' p) s =
        .next (s.respond .ok (.read (.unsigned (v.extractLsb' 16 16).toNat) (p + 2))) ∧
      exec (.getU8 buf' (p + 3)) s =
        .next (s.respond .ok (.read (.unsigned (v.extractLsb' 0 8).toNat) (p + 4)))) ∧
    (exec (.setF32 buf p v) s = .next (s.respond .ok (.written buf' q)) →
      exec (.getU32 buf' p) s = .next (s.respond .ok (.read (.unsigned (match s.cfg.frame.floatOrder with
        | .big => v.toNat
        | .little => (v.extractLsb' 0 8 ++ v.extractLsb' 8 8 ++ v.extractLsb' 16 8 ++
            v.extractLsb' 24 8).toNat)) (p + 4))))

/-! ## Frame builder and transport -/

/-- `START_SUBNET` (R181): its refusals in their order, and the header it writes. -/
def Obligations.StartSubnet : Prop :=
  ∀ s : State, s.ready = true →
    (∀ b : Byte, b.toNat = 0 ∨ 5 < b.toNat →
      exec (.startSubnet b) s = .next (s.respond .badOperand .none)) ∧
    ∀ n : Subnet,
      ((∃ m, m ≠ n ∧ (s.frame.tx.get m).opened = true) →
        exec (.startSubnet n.number) s = .next (s.respond .badState .none)) ∧
      ((∀ m, m ≠ n → (s.frame.tx.get m).opened = false) →
        (s.cfg.frame.txCap < 4 →
          exec (.startSubnet n.number) s = .next (s.respond .encodeError .none)) ∧
        (4 ≤ s.cfg.frame.txCap →
          exec (.startSubnet n.number) s = .next
            ((s.setTx n ⟨[.data n.number, .data 0, .swTrigger], 3, true⟩).respond .ok .none)))

/-- `APPEND` (R184): one frame at the end of the open batch, the CRC over address, function and
parameters with its low byte first, and the addressed actuator's counter one up; its refusals in their
order, each of them without a write. The payload of a function 75 request to a force actuator is wider for a
dual-axis address than for a single-axis one, whatever the forces (R128, R227), and no payload but that of
75 and 76 depends on the axis class (R131): what the spec states of the open functions, as
notes/assumptions/11.md reads it. -/
def Obligations.Append : Prop :=
  ∀ (s : State) (n : Subnet) (a g : Byte) (args : AppendArgs), s.ready = true →
    let b := s.frame.tx.get n
    let e := mapGet (s.frame.ilcMap.get n) a.toNat
    (∀ k : Byte, k.toNat = 0 ∨ 5 < k.toNat →
      exec (.append k a g args) s = .next (s.respond .badState .none)) ∧
    (b.opened = false → exec (.append n.number a g args) s = .next (s.respond .badState .none)) ∧
    (b.opened = true →
      (a.toNat = 255 ∨ 128 ≤ g.toNat ∨ e.type = .unknown ∨ recognised s.cfg e.type g = none →
        exec (.append n.number a g args) s = .next (s.respond .badOperand .none)) ∧
      ∀ f : FnCode, a.toNat ≠ 255 → e.type ≠ .unknown → ⟨e.type, f⟩ ∈ s.cfg.frame.recognised →
        (encodeParams s.cfg.tables f e (axisOf a) args = none →
          exec (.append n.number a f.code args) s = .next (s.respond .badOperand .none)) ∧
        ∀ p, encodeParams s.cfg.tables f e (axisOf a) args = some p →
          let body := a :: f.code :: p
          let crc := crc16 body
          let frame := body.map Cell.data ++
            [.data (crc.extractLsb' 0 8), .data (crc.extractLsb' 8 8), .endOfFrame,
              .directive (timingOf s.cfg f).1 (timingOf s.cfg f).2]
          let u := { s.frame with tx := s.frame.tx.set n { b with cells := b.cells ++ frame } }
          (s.cfg.frame.txCap < b.len + p.length + 7 →
            exec (.append n.number a f.code args) s = .next (s.respond .encodeError .none)) ∧
          (b.len + p.length + 7 ≤ s.cfg.frame.txCap →
            exec (.append n.number a f.code args) s = .next
              (State.respond { s with frame := u.modifyExpect e.type e.dataIndex (fun v => v + 1) } .ok .none))) ∧
    (∀ (e1 e2 : IlcEntry) (args1 args2 : AppendArgs) (p1 p2 : List Byte),
      e1.type = .forceActuator → e2.type = .forceActuator →
      encodeParams s.cfg.tables .forceDemand e1 .single args1 = some p1 →
      encodeParams s.cfg.tables .forceDemand e2 .dual args2 = some p2 → p1.length < p2.length) ∧
    ∀ f : FnCode, f ≠ .forceDemand → f ≠ .pneumaticForceStatus →
      encodeParams s.cfg.tables f e .single args = encodeParams s.cfg.tables f e .dual args

/-- `END_SUBNET`, `SEND` and `WAIT_IRQ` (R186, R190, R192): the closed batch with its length byte, the
words that go out, the words that come in, and every refusal. A draw longer than `cfg.rxCap` is the
model's choice (notes/assumptions/13.md). -/
def Obligations.CloseSendWait : Prop :=
  ∀ s : State, s.ready = true →
    (∀ b : Byte, b.toNat = 0 ∨ 5 < b.toNat →
      exec (.endSubnet b) s = .next (s.respond .badState .none) ∧
      exec (.send b) s = .next (s.respond .badState .none) ∧
      ∀ irq rx, exec (.waitIrq b irq rx) s = .next (s.respond .badOperand .none)) ∧
    ∀ n : Subnet,
      let b := s.frame.tx.get n
      (b.opened = false → exec (.endSubnet n.number) s = .next (s.respond .badState .none)) ∧
      (b.opened = true → ∀ l, b.len - b.start = l →
        (255 < l → exec (.endSubnet n.number) s = .next (s.respond .buildOverflow .none)) ∧
        (l ≤ 255 → exec (.endSubnet n.number) s = .next
          ((s.setTx n ⟨(b.cells ++ [Cell.triggerIrq]).set 1 (.data (BitVec.ofNat 8 l)), b.start,
            false⟩).respond .ok .none))) ∧
      (b.opened = true ∨ b.len = 0 →
        exec (.send n.number) s = .next (s.respond .badState .none)) ∧
      (b.opened = false → 0 < b.len → exec (.send n.number) s = .next
        (State.respond { s with
          txOut := s.txOut.set n (s.txOut.get n ++ b.cells.map (encCell s.cfg.frame.wire)) } .ok .none)) ∧
      (∀ rx, exec (.waitIrq n.number false rx) s =
        .next ((s.setRx n []).respond .ok (.timedOut true))) ∧
      (∀ rx, rx.length ≤ s.cfg.frame.rxCap → exec (.waitIrq n.number true rx) s =
        .next ((s.setRx n rx).respond .ok (.timedOut false))) ∧
      ∀ rx, s.cfg.frame.rxCap < rx.length →
        exec (.waitIrq n.number true rx) s = .next (s.respond .badOperand .none)

/-! ## Map, parser, accounting -/

/-- `MAP_BUILD` (R210): the map holds the rows of the table and nothing else; a table that breaks the
ownership invariant is `BAD_CONFIG`, a block that is not idle `BAD_STATE`, both without a write. -/
def Obligations.MapBuild : Prop :=
  ∀ s : State,
    (s.cfgLoaded = false ∨ (∃ n, (s.frame.tx.get n).opened = true) ∨ s.raise.rstate = .running ∨
        s.raise.rstate = .paused ∨ s.safety.err.code ≠ .noFault →
      exec .mapBuild s = .next (s.respond .badState .none)) ∧
    (s.cfgLoaded = true → (∀ n, (s.frame.tx.get n).opened = false) →
      s.raise.rstate = .idle ∨ s.raise.rstate = .complete → s.safety.err.code = .noFault →
      (¬ tableOk s.cfg.plant.actuatorTable →
        exec .mapBuild s = .next (s.respond .badConfig .none)) ∧
      (tableOk s.cfg.plant.actuatorTable → ∃ m,
        exec .mapBuild s = .next ((s.setMap m).respond .ok .none) ∧
        (∀ r, r ∈ s.cfg.plant.actuatorTable → ∀ n, r.subnet = n.number →
          mapGet (m.get n) r.address.toNat = r.entry) ∧
        ∀ (n : Subnet) (a : Byte), (∀ r, r ∈ s.cfg.plant.actuatorTable → ¬(r.subnet = n.number ∧ r.address = a)) →
          mapGet (m.get n) a.toNat = unmapped))

/-- A configuration that `SETTINGS_LOAD` accepts is well-formed in the sense of R8: the ownership of addresses,
every index inside its array (R91; a row's axis indices are those of `xIndex`, `yIndex`, R7; no secondary
index without a secondary cylinder), a row for each of the `N_FA` actuators in the tables by actuator
(orientation, `xIndex`, `yIndex`, `pos`, the two neighbour tables, R7), the sentinels, the window periods,
the limits of every component and of the final stage, in the shape of R43. `N_X` and `N_Y` are
only bounded: that they need not be the counts R7 names is the model's choice (notes/assumptions/33.md). -/
def Obligations.AcceptedConfigIsWellFormed : Prop :=
  ∀ c : Cfg, cfgOk c = true →
    (c.plant.actuatorTable.map (fun r => (r.subnet, r.address))).Nodup ∧
    (c.plant.actuatorTable.map (fun r => r.entry.actuatorId)).Nodup ∧
    (∀ r, r ∈ c.plant.actuatorTable → 1 ≤ r.subnet.toNat ∧ r.subnet.toNat ≤ 5 ∧ r.address.toNat ≠ 255 ∧
      (r.entry.type = .forceActuator → ∃ i, indexOf r.entry.dataIndex = some i ∧ i < c.plant.nFA ∧
        (r.entry.xDataIndex = -1 ∨ ∃ k, indexOf r.entry.xDataIndex = some k ∧ k < c.plant.nX) ∧
        (r.entry.yDataIndex = -1 ∨ ∃ k, indexOf r.entry.yDataIndex = some k ∧ k < c.plant.nY) ∧
        c.plant.xIndex[i]? = some r.entry.xDataIndex ∧ c.plant.yIndex[i]? = some r.entry.yDataIndex ∧
        (c.plant.orientation[i]? = some .singleAxis → r.entry.secondaryDataIndex = -1)) ∧
      (r.entry.type = .hardpoint ∨ r.entry.type = .hardpointMonitor →
        ∃ i, indexOf r.entry.dataIndex = some i ∧ i < 6)) ∧
    (c.plant.nX ≤ c.plant.nFA ∧ c.plant.nY ≤ c.plant.nFA ∧ c.plant.orientation.length = c.plant.nFA ∧
      c.plant.xIndex.length = c.plant.nFA ∧ c.plant.yIndex.length = c.plant.nFA) ∧
    (∀ v, v ∈ c.plant.xIndex → v = -1 ∨ ∃ k, indexOf v = some k ∧ k < c.plant.nX) ∧
    (∀ v, v ∈ c.plant.yIndex → v = -1 ∨ ∃ k, indexOf v = some k ∧ k < c.plant.nY) ∧
    (c.force.pos.length = c.plant.nFA ∧ c.force.nearNbr.length = c.plant.nFA ∧
      c.force.farNbr.length = c.plant.nFA ∧ ∀ l, l ∈ c.force.nearNbr ++ c.force.farNbr → ∀ j, j ∈ l → j < c.plant.nFA) ∧
    (∀ n, (c.plant.subnetAddrs.get n).getLast? = some 255) ∧
    (1 ≤ c.safety.winPeriod.ilc ∧ 1 ≤ c.safety.winPeriod.fe ∧ 1 ≤ c.safety.winPeriod.hpf ∧
      1 ≤ c.safety.winPeriod.hpa) ∧
    ∀ l, (l = c.force.finalLimits ∨ ∃ k, l = c.force.limits.get k) →
      (l.low.x.length = c.plant.nX ∧ l.low.y.length = c.plant.nY ∧ l.low.z.length = c.plant.nFA) ∧
      (l.high.x.length = c.plant.nX ∧ l.high.y.length = c.plant.nY ∧ l.high.z.length = c.plant.nFA) ∧
      ∀ lo hi, (lo, hi) ∈ l.low.x.zip l.high.x ∨ (lo, hi) ∈ l.low.y.zip l.high.y ∨
          (lo, hi) ∈ l.low.z.zip l.high.z →
        f32Le lo hi = true ∧ f32IsNaN lo = false ∧ f32IsNaN hi = false

/-- `VALIDATE_CRC` (R213): the frame's bytes end at the first delimiter, the next frame starts after the
delimiters and an end marker; the verdict by length and CRC field; no state is written. -/
def Obligations.ValidateCrc : Prop :=
  ∀ s : State, s.ready = true →
    (∀ (b : Byte) (p : Nat), b.toNat = 0 ∨ 5 < b.toNat →
      exec (.validateCrc b p) s = .next (s.respond .badOperand .none)) ∧
    ∀ n : Subnet,
      (∀ p, (s.frame.rx.get n).length ≤ p →
        exec (.validateCrc n.number p) s = .next (s.respond .badOperand .none)) ∧
      ∀ pre ws ds rest : List Word16, s.frame.rx.get n = pre ++ ws ++ ds ++ rest →
        (∀ x, x ∈ ws → (classify s.cfg x).isDelim = false) →
        (∀ x, x ∈ ds → (classify s.cfg x).isDelim = true) →
        (ds = [] → rest = [] → ws ≠ [] →
          exec (.validateCrc n.number pre.length) s =
            .next (s.respond .ok (.verdict .truncated [] (s.frame.rx.get n).length))) ∧
        (ds ≠ [] → (∀ x, rest.head? = some x → (classify s.cfg x).isDelim = false) →
          let next := pre.length + ws.length + ds.length +
            (if rest.head?.any (fun x => (classify s.cfg x).isEof) then 1 else 0)
          let bs := ws.map (rxDataByte s.cfg.tables)
          (bs.length < 4 → exec (.validateCrc n.number pre.length) s =
            .next (s.respond .ok (.verdict .tooShort [] next))) ∧
          ∀ body lo hi, bs = body ++ [lo, hi] → 2 ≤ body.length →
            exec (.validateCrc n.number pre.length) s = .next (s.respond .ok
              (if crc16 body = hi ++ lo then .verdict .good body next else .verdict .badCrc [] next)))

/-- `PARSE` is frame by frame (R212, R214, R400): an empty batch is nothing, a batch shorter than the
timestamp one warning, and a batch of frames is its timestamp and then each frame's own effect in order,
a bad frame being one warning that stops nothing; a frame may lack its end marker (R117, R213); words after
the last delimiter are one more warning. -/
def Obligations.ParseFrameByFrame : Prop :=
  ∀ s : State, s.ready = true →
    (∀ k b : Byte, b.toNat = 0 ∨ 5 < b.toNat →
      exec (.parse k (some b)) s = .next (s.respond .badOperand .none) ∧
      exec (.parse b none) s = .next (s.respond .badOperand .none)) ∧
    ∀ (n : Subnet) (k : Byte),
      exec (.parse n.number none) s = exec (.parse n.number (some n.number)) s ∧
      (s.frame.rx.get n = [] →
        exec (.parse k (some n.number)) s = .next (s.respond .ok (.frames 0))) ∧
      (s.frame.rx.get n ≠ [] → (s.frame.rx.get n).length < 4 →
        exec (.parse k (some n.number)) s = .next
          ((s.emit .invalidLength (-1) (s.frame.rxts.get n)).respond .ok (.frames 0))) ∧
      ∀ (t0 t1 t2 t3 : Word16) (frames : List (List Word16 × List Word16)) (rest : List Word16),
        s.frame.rx.get n = t0 :: t1 :: t2 :: t3 :: (frames.flatMap (fun f => f.1 ++ f.2) ++ rest) →
        rxFrames s.cfg frames rest →
        let ts := t0 ++ t1 ++ t2 ++ t3
        let r := frames.foldl (frameRun k ts) (s.setRxts n ts, 0)
        exec (.parse k (some n.number)) s = .next
          ((if rest = [] then r.1 else r.1.emit .invalidLength (-1) ts).respond .ok (.frames r.2))

/-- Parses of two subnets commute on the force states, the counters and the timestamps, whatever stands
in their buffers, when no actuator of the one shares its data index with one of the other (R93). They
need not commute on `ILCWARN` and `LOG`. That the table may share an index, so that the premise is needed, is
the model's choice (notes/assumptions/31.md). -/
def Obligations.ParsesCommute : Prop :=
  ∀ (s t1 t2 u1 u2 : State) (n m : Subnet), n ≠ m →
    (∀ c d, c ∈ s.frame.ilcMap.get n → d ∈ s.frame.ilcMap.get m →
      c.entry.type ≠ d.entry.type ∨ c.entry.dataIndex ≠ d.entry.dataIndex) →
    exec (.parse n.number none) s = .next t1 → exec (.parse m.number none) t1 = .next t2 →
    exec (.parse m.number none) s = .next u1 → exec (.parse n.number none) u1 = .next u2 →
    t2.frame.afs = u2.frame.afs ∧ t2.frame.hps = u2.frame.hps ∧
      t2.frame.expectFa = u2.frame.expectFa ∧ t2.frame.expectHp = u2.frame.expectHp ∧
      t2.frame.expectHm = u2.frame.expectHm ∧ t2.frame.rxts = u2.frame.rxts

/-- The priority of the warnings of one response frame whose CRC was right (R212, R386): subnet,
address, then for a function byte the function and the payload's length; each warning is the frame's
only effect, and the actuator is named once the lookup has succeeded. A frame presented by itself, its gate
and its answer (`OK`, 0 frames) are the model's choice (notes/assumptions/5.md). -/
def Obligations.FrameWarnings : Prop :=
  ∀ (s : State) (a : Byte) (p : List Byte) (ts : U64), s.ready = true →
    (∀ sub : Byte, sub.toNat = 0 ∨ 5 < sub.toNat →
      (∀ r, r ∈ allResponses sub a p ts →
        exec r.1 s = .next ((s.emit .unknownSubnet (-1) ts).respond .ok (.frames 0))) ∧
      ∀ f, exec (.exceptionResponse sub a f p ts) s =
        .next ((s.emit .unknownSubnet (-1) ts).respond .ok (.frames 0))) ∧
    ∀ n : Subnet,
      let e := mapGet (s.frame.ilcMap.get n) a.toNat
      (e.type = .unknown →
        (∀ r, r ∈ allResponses n.number a p ts →
          exec r.1 s = .next ((s.emit .unknownAddress (-1) ts).respond .ok (.frames 0))) ∧
        ∀ f, exec (.exceptionResponse n.number a f p ts) s =
          .next ((s.emit .unknownAddress (-1) ts).respond .ok (.frames 0))) ∧
      (e.type ≠ .unknown → ∀ r, r ∈ allResponses n.number a p ts →
        (⟨e.type, r.2⟩ ∉ s.cfg.frame.recognised →
          exec r.1 s = .next ((s.emit .unknownFunction e.actuatorId ts).respond .ok (.frames 0))) ∧
        (⟨e.type, r.2⟩ ∈ s.cfg.frame.recognised →
          decodePayload s.cfg.tables e.type r.2 (axisOf a) p = none →
          exec r.1 s = .next ((s.emit .invalidLength e.actuatorId ts).respond .ok (.frames 0))))

/-- A decoded response of a function code that writes no register: the actuator's counter one down and
the `Decoded` event, nothing else (R215, R216, R220 to R223, R225, R226, R229 to R239). Seventeen
instructions: `ReportServerID`, `ReportServerStatus`, `ChangeMode`, `StepMotor`,
`SetBoostValveDCAGains`, `ReadBoostValveDCAGains`, `SetADCScanRate`, `SetADCOffsetSensitivity`,
`EraseApplication`, `WriteApplication`, `VerifyApplication`, `ResetApplication`, `ReadCalibration`,
`ReadDCAPressure`, `ReportDCAID`, `ReportDCAStatus`, `ReportLVDT`. A frame presented by itself, its gate and
its answer (`OK`, 1 frame) are the model's choice (notes/assumptions/5.md). -/
def Obligations.PlainResponses : Prop :=
  ∀ (s : State) (n : Subnet) (a : Byte) (p : List Byte) (ts : U64) (ws : List SlotWrite), s.ready = true →
    let e := mapGet (s.frame.ilcMap.get n) a.toNat
    e.type ≠ .unknown → ∀ r, r ∈ plainResponses n.number a p ts →
      ⟨e.type, r.2⟩ ∈ s.cfg.frame.recognised →
      decodePayload s.cfg.tables e.type r.2 (axisOf a) p = some ws →
      exec r.1 s = .next (State.respond { s with
        frame := s.frame.modifyExpect e.type e.dataIndex (fun v => v - 1)
        log := s.log ++ [.decoded n.number a r.2.code ws ts] } .ok (.frames 1))

/-- A decoded response that carries forces (R215, R217, R224, R227, R228): `ForceDemand` and
`PneumaticForceStatus` write the cylinder forces of the force actuator, one or two by the axis class of
the address, and its derived forces; `ElectromechanicalForceAndStatus` writes the force of the
hardpoint; on any other type they write no register but the counter. A negative data index names no element
and no counter (notes/assumptions/28.md). A frame presented by itself, its gate and its answer (`OK`, 1
frame) are the model's choice (5.md). -/
def Obligations.ForceResponses : Prop :=
  ∀ (s : State) (n : Subnet) (a : Byte) (p : List Byte) (ts : U64) (ws : List SlotWrite),
    s.ready = true →
    let e := mapGet (s.frame.ilcMap.get n) a.toNat
    let u := s.frame.modifyExpect e.type e.dataIndex (fun v => v - 1)
    e.type ≠ .unknown →
    (indexOf e.dataIndex = none → ∀ r,
      r ∈ (.electromechanicalForceAndStatus n.number a p ts, .electromechanicalForceAndStatus) ::
        forceResponses n.number a p ts →
      ⟨e.type, r.2⟩ ∈ s.cfg.frame.recognised →
      decodePayload s.cfg.tables e.type r.2 (axisOf a) p = some ws →
      exec r.1 s = .next (State.respond { s with
        log := s.log ++ [.decoded n.number a r.2.code ws ts] } .ok (.frames 1))) ∧
    ∀ i, indexOf e.dataIndex = some i →
    let set : F32 → Option F32 → ActuatorForce → ActuatorForce := fun v w x =>
      let d := fromCylinder s.cfg.tables (orientationOf s.cfg i) v (w.getD x.secondary)
      ⟨v, w.getD x.secondary, d.1, d.2.1, d.2.2⟩
    (∀ r, r ∈ forceResponses n.number a p ts → ⟨e.type, r.2⟩ ∈ s.cfg.frame.recognised →
      decodePayload s.cfg.tables e.type r.2 (axisOf a) p = some ws →
      let l := s.log ++ [.decoded n.number a r.2.code ws ts]
      (e.type = .forceActuator → a.toNat ≤ 16 → ∃ v, ws = [.primary v] ∧
        exec r.1 s = .next (State.respond { s with
          frame := { u with afs := modifyAt s.frame.afs i (set v none) }, log := l } .ok
            (.frames 1))) ∧
      (e.type = .forceActuator → 16 < a.toNat → ∃ v w, ws = [.primary v, .secondary w] ∧
        exec r.1 s = .next (State.respond { s with
          frame := { u with afs := modifyAt s.frame.afs i (set v (some w)) }, log := l } .ok
            (.frames 1))) ∧
      (e.type ≠ .forceActuator →
        exec r.1 s = .next (State.respond { s with frame := u, log := l } .ok (.frames 1)))) ∧
    (⟨e.type, .electromechanicalForceAndStatus⟩ ∈ s.cfg.frame.recognised →
      decodePayload s.cfg.tables e.type .electromechanicalForceAndStatus (axisOf a) p = some ws →
      let l := s.log ++ [.decoded n.number a 0x43 ws ts]
      (∀ h, e.type = .hardpoint → Hp.ofIndex i = some h →
        exec (.electromechanicalForceAndStatus n.number a p ts) s = .next (State.respond { s with
          frame := { u with
            hps := ws.foldl (fun q w => match w with
              | .hpForce v => q.set h v
              | _ => q) s.frame.hps }
          log := l } .ok (.frames 1))) ∧
      (e.type ≠ .hardpoint ∨ Hp.ofIndex i = none →
        exec (.electromechanicalForceAndStatus n.number a p ts) s =
          .next (State.respond { s with frame := u, log := l } .ok (.frames 1))))

/-- Exception responses (R240): the one-byte code gives the cause, whatever the function; the counter
goes down only by `cfg.excDecrements`; any other payload is `invalidLength`; nothing is decoded. A frame
presented by itself, its gate and its answer (`OK`, 0 frames) are the model's choice
(notes/assumptions/5.md). -/
def Obligations.ExceptionResponses : Prop :=
  ∀ (s : State) (n : Subnet) (a : Byte) (f : BitVec 7) (ts : U64), s.ready = true →
    let e := mapGet (s.frame.ilcMap.get n) a.toNat
    e.type ≠ .unknown →
    (∀ x : Byte,
      let c : Cause := if x.toNat = 1 then .illegalFunction else if x.toNat = 3 then .illegalDataValue
        else .unknownProblem
      let t := s.emit c e.actuatorId ts
      (s.cfg.frame.excDecrements = false →
        exec (.exceptionResponse n.number a f [x] ts) s = .next (t.respond .ok (.frames 0))) ∧
      (s.cfg.frame.excDecrements = true →
        exec (.exceptionResponse n.number a f [x] ts) s = .next (State.respond { t with
          frame := t.frame.modifyExpect e.type e.dataIndex (fun v => v - 1) } .ok (.frames 0)))) ∧
    ∀ p : List Byte, p.length ≠ 1 →
      exec (.exceptionResponse n.number a f p ts) s =
        .next ((s.emit .invalidLength e.actuatorId ts).respond .ok (.frames 0))

/-- `RECONCILE` (R250): one `responseTimeout` warning for each counter that is not zero, in the order of
the files, whatever its value; every counter zero after; the aggregate true exactly if there was one. Which
row's actuator a warning names, where two share the type and the index, is the model's choice
(notes/assumptions/31.md). -/
def Obligations.Reconcile : Prop :=
  ∀ (s : State) (ts : U64), s.ready = true →
    let late := (counterList s.frame).filter (fun k => s.frame.expect k.1 k.2 != 0)
    let warning := fun k : ActType × Nat =>
      (⟨ts, idOf s.cfg k.1 k.2, true, false, false, false, false, false, false, false, false, true⟩ : IlcWarn)
    exec (.reconcile ts) s = .next (State.respond { s with
      frame := { s.frame with
        expectFa := List.replicate s.frame.expectFa.length 0
        expectHp := PerHp.pure 0
        expectHm := PerHp.pure 0
        ilcWarn := match late.getLast? with
          | none => s.frame.ilcWarn
          | some k => warning k
        anyTimeout := !late.isEmpty }
      log := s.log ++ late.map (fun k => .warning (warning k)) } .ok .none)

/-! ## Force pipeline -/

/-- The component operations but `FC_UPDATE`, and the state machine they drive (R262, R263, R265, R268,
R270): enabling writes the state alone; disabling and zeroing set the targets to +0.0 and start the ramp
from `Initialising` and `Enabled`, and do nothing in the other states; applying takes targets of the
right lengths that are all finite; a number above 8 is refused by each. -/
def Obligations.ComponentOperations : Prop :=
  ∀ s : State, s.ready = true →
    (∀ b : Byte, 8 < b.toNat →
      exec (.fcEnable b) s = .next (s.respond .badOperand .none) ∧
      exec (.fcDisable b) s = .next (s.respond .badOperand .none) ∧
      exec (.fcZero b) s = .next (s.respond .badOperand .none) ∧
      ∀ x y z, exec (.fcApply b x y z) s = .next (s.respond .badOperand .none)) ∧
    ∀ c : Comp,
      let b := BitVec.ofNat 8 c.number
      let v := s.force.fc.get c
      exec (.fcEnable b) s = .next ((s.setComp c { v with state := .enabled }).respond .ok .none) ∧
      (v.state = .initialising ∨ v.state = .enabled →
        let t := s.setComp c { v with target := v.target.map (fun _ => 0), state := .disabling }
        exec (.fcDisable b) s = .next (t.respond .ok .none) ∧
        exec (.fcZero b) s = .next (t.respond .ok .none)) ∧
      (v.state = .disabling ∨ v.state = .disabled →
        exec (.fcDisable b) s = .next (s.respond .ok .none) ∧
        exec (.fcZero b) s = .next (s.respond .ok .none)) ∧
      ∀ x y z : List F32,
        (x.length = s.cfg.plant.nX → y.length = s.cfg.plant.nY → z.length = s.cfg.plant.nFA →
          (∀ q, q ∈ x ++ y ++ z → f32IsFinite q = true) →
          exec (.fcApply b x y z) s = .next
            ((s.setComp c { v with target := ⟨x, y, z⟩, state := .enabled }).respond .ok .none)) ∧
        (x.length ≠ s.cfg.plant.nX ∨ y.length ≠ s.cfg.plant.nY ∨ z.length ≠ s.cfg.plant.nFA ∨
            (∃ q, q ∈ x ++ y ++ z ∧ f32IsFinite q = false) →
          exec (.fcApply b x y z) s = .next (s.respond .badOperand .none))

/-- `FC_UPDATE` (R274): a number above 8 is refused; nothing when `Disabled`; the walk; the end of the
ramp, with exact zeros and no clip; else the clip, written back to `current`, with its flags, its event
and its fault. -/
def Obligations.FcUpdate : Prop :=
  ∀ s : State, s.ready = true →
    (∀ b : Byte, 8 < b.toNat → exec (.fcUpdate b) s = .next (s.respond .badOperand .none)) ∧
    ∀ c : Comp,
    let b := BitVec.ofNat 8 c.number
    let v := s.force.fc.get c
    let walked := Tri.zipWith (fun x t => f32Step x t (s.cfg.force.maxRate.get c)) v.current v.target
    let near := walked.all (fun x => f32Le (f32Abs x) s.cfg.force.nearZeroEps)
    let applied := clampTri (s.cfg.force.limits.get c) walked
    let flags := Tri.zipWith f32Ne applied walked
    let zeros := walked.map (fun _ => (0 : F32))
    (v.state = .disabled → exec (.fcUpdate b) s = .next (s.respond .ok .none)) ∧
    (v.state = .disabling → near = true → exec (.fcUpdate b) s = .next
      ((s.setComp c { v with
        state := .disabled, current := zeros, preclipped := zeros, applied := zeros
        clipWarn := walked.map (fun _ => false), anyClip := false }).respond .ok .none)) ∧
    (v.state = .initialising ∨ v.state = .enabled ∨ (v.state = .disabling ∧ near = false) →
      let t := s.setComp c { v with
        current := applied, preclipped := walked, applied := applied
        clipWarn := flags, anyClip := flags.any id }
      let l := if flags.any id = true then t.log ++ [.clip c.number flags] else t.log
      exec (.fcUpdate b) s = .next
        ((({ t with log := l } : State).notify (clipFault c) (flags.any id)
          (reportOf (clipFault c))).respond .ok .none))

/-- `UPDATE_APPLIED` is the `FC_UPDATE`s of the active components, in ascending order (R276). -/
def Obligations.UpdateAppliedIsSequence : Prop :=
  ∀ s : State, s.ready = true → ∃ t,
    runSeq ((Comp.all.filter (fun c => (s.force.fc.get c).active)).map
      (fun c => .fcUpdate (BitVec.ofNat 8 c.number))) s = .next t ∧
    exec .updateApplied s = .next (t.respond .ok .none)

/-- `PROCESS_APPLIED` (R280 to R288): what each stage leaves, and the one fault that can latch, the first
failing of final clip, moments, near neighbours, weight, far neighbours; `NOT_CONFIGURED` before the first
elevation sample (R62). The set-points are the conversion of each actuator's applied forces (R282), the
resultant the sums of forces and of lever arm by force over the preclipped totals (R283), a neighbour flag
the distance from the neighbours' average (R285, R287). An element that an array lacks reads as +0.0, which
no run meets (notes/assumptions/22.md). -/
def Obligations.ProcessApplied : Prop :=
  ∀ s : State, s.ready = true →
    let f := s.cfg.force
    let n := s.cfg.plant.nFA
    let pre := sumActive s.cfg s.force.fc
    let applied := clampTri f.finalLimits pre
    let flags := Tri.zipWith f32Ne applied pre
    let axis : List I32 → List F32 → Nat → F32 := fun index a i =>
      match indexOf (index.getD i (-1)) with
      | some k => a.getD k 0
      | none => 0
    let sp := (List.range n).map (fun i => toCylinder s.cfg.tables (orientationOf s.cfg i)
      (axis s.cfg.plant.xIndex applied.x i) (axis s.cfg.plant.yIndex applied.y i) (applied.z.getD i 0))
    let fx := axis s.cfg.plant.xIndex pre.x
    let fy := axis s.cfg.plant.yIndex pre.y
    let fz := fun i => pre.z.getD i 0
    let pos := fun i => f.pos.getD i ⟨0, 0, 0⟩
    let sum : (Nat → F32) → F32 := fun g => (List.range n).foldl (fun t i => f32Add t (g i)) 0
    let mx := sum (fun i => f32Sub (f32Mul (pos i).y (fz i)) (f32Mul (pos i).z (fy i)))
    let my := sum (fun i => f32Sub (f32Mul (pos i).z (fx i)) (f32Mul (pos i).x (fz i)))
    let mz := sum (fun i => f32Sub (f32Mul (pos i).x (fy i)) (f32Mul (pos i).y (fx i)))
    let square := fun v => f32Mul v v
    let res : Resultant := ⟨sum fx, sum fy, sum fz, mx, my, mz,
      f32Sqrt (f32Add (f32Add (square (sum fx)) (square (sum fy))) (square (sum fz)))⟩
    let beyond : Vec3 → Bool := fun l =>
      f32Lt l.x (f32Abs mx) || f32Lt l.y (f32Abs my) || f32Lt l.z (f32Abs mz)
    let count := if beyond f.momentWarn then s.force.momentWarnCnt + 1 else 0
    let outside : F32 → F32 → List (List Nat) → Bool := fun abs rel nbr =>
      (List.range n).any (fun i =>
        match nbr.getD i [] with
        | [] => false
        | j :: l =>
          let avg := f32Div ((j :: l).foldl (fun t k => f32Add t (fz k)) 0) (f32OfNat (l.length + 1))
          f32Lt (f32Add abs (f32Mul rel (f32Abs avg))) (f32Abs (f32Sub (fz i) avg)))
    let checks : List (FaultCode × Bool) :=
      [(.forceClipFinal, flags.any id),
        (.mirrorMoment, beyond f.momentFault || decide (f.momentWarnCount < count)),
        (.nearNeighbor, outside f.nearAbs f.nearRel f.nearNbr),
        (.mirrorWeight, f32Lt f.weightTol
          (f32Abs (f32Sub (sum fz) (expectedWeight s.cfg.tables s.elev s.raise.pct)))),
        (.farNeighbor, outside f.farAbs f.farRel f.farNbr)]
    (s.elevValid = false → exec .processApplied s = .next (s.respond .notConfigured .none)) ∧
    (s.elevValid = true → exec .processApplied s = .next (State.respond { s with
      force := { s.force with
        fin := ⟨pre, applied, flags, flags.any id, sp.map Prod.fst, sp.map Prod.snd⟩
        res := res
        momentWarnCnt := count }
      safety := { s.safety with
        err := latchFirst s.cfg.safety s.safety.err (checks.map (fun p => (p.1, p.2, reportOf p.1))) }
      log := if flags.any id = true then s.log ++ [.clip 9 flags] else s.log } .ok .none))

/-- The sum of the final stage, element by element (R278): the active components' current forces added
in ascending order from +0.0. -/
def Obligations.SumByElement : Prop :=
  ∀ (s : State) (k : Nat), ArraySizes s →
    let active := Comp.all.filter (fun c => (s.force.fc.get c).active)
    (k < s.cfg.plant.nX → (sumActive s.cfg s.force.fc).x[k]? =
      some (active.foldl (fun t c => f32Add t ((s.force.fc.get c).current.x.getD k 0)) 0)) ∧
    (k < s.cfg.plant.nY → (sumActive s.cfg s.force.fc).y[k]? =
      some (active.foldl (fun t c => f32Add t ((s.force.fc.get c).current.y.getD k 0)) 0)) ∧
    (k < s.cfg.plant.nFA → (sumActive s.cfg s.force.fc).z[k]? =
      some (active.foldl (fun t c => f32Add t ((s.force.fc.get c).current.z.getD k 0)) 0))

/-- The bounded move and the coercion (R266), over all finite values: the move lands on the target when
within the rate, else goes toward it without overshooting; the coerced value is inside the limits, and
is the value itself where that is inside. -/
def Obligations.StepAndClamp : Prop :=
  (∀ cur tgt r : F32, f32IsFinite cur = true → f32IsFinite tgt = true → f32IsFinite r = true →
    f32Lt 0 r = true →
    (f32Le (f32Abs (f32Sub tgt cur)) r = true → f32Step cur tgt r = tgt) ∧
    (f32Le cur tgt = true → f32Le cur (f32Step cur tgt r) = true ∧ f32Le (f32Step cur tgt r) tgt = true) ∧
    (f32Le tgt cur = true → f32Le tgt (f32Step cur tgt r) = true ∧ f32Le (f32Step cur tgt r) cur = true)) ∧
  ∀ v lo hi : F32, f32IsNaN v = false → f32Le lo hi = true →
    f32Le lo (f32Clamp v lo hi) = true ∧ f32Le (f32Clamp v lo hi) hi = true ∧
    (f32Le lo v = true → f32Le v hi = true → f32Clamp v lo hi = v)

/-! ## Safety controller -/

/-- `NOTIFY` and how a fault is taken (R312, R313, R388): an enabled code whose flag is true is latched,
its report cut to `cfg.reportMax` bytes, if no fault is latched; in every other case nothing is written;
code 0 and codes above 21 are refused. -/
def Obligations.NotifyLatches : Prop :=
  ∀ (s : State) (flag : Bool) (report : List Byte), s.ready = true →
    (∀ b : Byte, b.toNat = 0 ∨ 21 < b.toNat →
      exec (.notify b flag report) s = .next (s.respond .badOperand .none)) ∧
    ∀ c : FaultCode, c ≠ .noFault →
      let b := BitVec.ofNat 8 c.code
      (flag = true → c ∈ s.cfg.safety.faultEnabled → s.safety.err.code = .noFault →
        exec (.notify b flag report) s = .next (State.respond { s with
          safety := { s.safety with err := ⟨c, report.take s.cfg.safety.reportMax⟩ } } .ok .none)) ∧
      (flag = false ∨ c ∉ s.cfg.safety.faultEnabled ∨ s.safety.err.code ≠ .noFault →
        exec (.notify b flag report) s = .next (s.respond .ok .none))

/-- First fault wins (R312, R387): after any number of notifications only the first enabled one whose
flag was true is latched, and none if a fault was latched before. -/
def Obligations.FirstFaultWins : Prop :=
  ∀ (s : State) (l : List (FaultCode × Bool × List Byte)), s.ready = true →
    (∀ p, p ∈ l → p.1 ≠ .noFault) → ∃ t,
    runSeq (l.map (fun p => .notify (BitVec.ofNat 8 p.1.code) p.2.1 p.2.2)) s = .next t ∧
    { t with rsp := s.rsp } =
      { s with safety := { s.safety with err := latchFirst s.cfg.safety s.safety.err l } }

/-- A latched fault stays as it is until `CHECK_SAFETY`, a clear or a reset (R312, R390). -/
def Obligations.LatchHeldUntilCleared : Prop :=
  ∀ (i : Instr) (s t : State), freesLatch i = false → s.safety.err.code ≠ .noFault →
    exec i s = .next t → t.safety.err = s.safety.err

/-- The four windowed notifiers (R314, R316 to R319): the sample is pushed at the back and the front
popped, then the fault is notified if the sum is at the threshold; an index out of range is refused. -/
def Obligations.WindowedNotifiers : Prop :=
  ∀ (s : State) (sample : Bool) (report : List Byte), s.ready = true →
    let p := s.cfg.safety.winThreshold
    let u := s.safety
    (let w := u.winIlc.drop 1 ++ [s.frame.anyTimeout];
      exec .notifyIlcTimeout s = .next ((State.notify { s with safety := { u with winIlc := w } }
        .ilcCommunicationTimeout (decide (p.ilc ≤ w.countP id))
        (reportOf .ilcCommunicationTimeout)).respond .ok .none)) ∧
    (∀ i, s.cfg.plant.nFA ≤ i →
      exec (.notifyFaFollowingError i sample report) s = .next (s.respond .badOperand .none)) ∧
    (∀ i, i < s.cfg.plant.nFA → i < u.winFe.length →
      let w := (u.winFe.getD i []).drop 1 ++ [sample]
      exec (.notifyFaFollowingError i sample report) s = .next
        ((State.notify { s with safety := { u with winFe := u.winFe.set i w } }
          .forceActuatorFollowingError (decide (p.fe ≤ w.countP id)) report).respond .ok .none)) ∧
    (∀ b : Byte, 5 < b.toNat →
      exec (.notifyHpMeasuredForce b sample report) s = .next (s.respond .badOperand .none) ∧
      exec (.notifyHpAirPressure b sample report) s = .next (s.respond .badOperand .none)) ∧
    ∀ h : Hp,
      let b := BitVec.ofNat 8 h.number
      (let w := (u.winHpf.get h).drop 1 ++ [sample];
        exec (.notifyHpMeasuredForce b sample report) s = .next
          ((State.notify { s with safety := { u with winHpf := u.winHpf.set h w } }
            .hardpointMeasuredForce (decide (p.hpf ≤ w.countP id)) report).respond .ok .none)) ∧
      (let w := (u.winHpa.get h).drop 1 ++ [sample];
        exec (.notifyHpAirPressure b sample report) s = .next
          ((State.notify { s with safety := { u with winHpa := u.winHpa.set h w } }
            .hardpointAirPressure (decide (p.hpa ≤ w.countP id)) report).respond .ok .none))

/-- A window of each kind holds the most recent samples (R314, R52): pushed by its notifier into a zero window
of `N` bits, any number of samples leave the last `N` of them, missing ones counting 0, and their sum is the
number of 1s among the last `N`. `WIN_ILC`, `WIN_FE[i]`, `WIN_HPF[h]`, `WIN_HPA[h]`. -/
def Obligations.WindowHoldsLastSamples : Prop :=
  ∀ (s : State) (N : Nat) (samples : List Bool), s.ready = true → 1 ≤ N →
    let zeros := List.replicate N false
    let last := (zeros ++ samples).drop samples.length
    winSum last = (samples.drop (samples.length - N)).countP id ∧
    (s.safety.winIlc = zeros → ∃ t, ilcSamples samples s = .next t ∧ t.safety.winIlc = last) ∧
    (∀ i, i < s.cfg.plant.nFA → s.safety.winFe[i]? = some zeros → ∃ t,
      runSeq (samples.map (fun b => .notifyFaFollowingError i b [])) s = .next t ∧
      t.safety.winFe[i]? = some last) ∧
    ∀ h : Hp,
      (s.safety.winHpf.get h = zeros → ∃ t,
        runSeq (samples.map (fun b => .notifyHpMeasuredForce (BitVec.ofNat 8 h.number) b [])) s = .next t ∧
        t.safety.winHpf.get h = last) ∧
      (s.safety.winHpa.get h = zeros → ∃ t,
        runSeq (samples.map (fun b => .notifyHpAirPressure (BitVec.ofNat 8 h.number) b [])) s = .next t ∧
        t.safety.winHpa.get h = last)

/-- The verdict and the clears (R322, R323, R324, R388, R389): a latched fault is copied, logged and
cleared, and answers `LoweringFaultState`; a free latch answers the host's state; `CLEAR_ERROR` clears
the latch alone; `CLEAR_ERROR_CODE` also the copy, the windows, `TRIG` and the moment count. -/
def Obligations.CheckSafetyAndClears : Prop :=
  ∀ (s : State) (k : Byte), s.ready = true →
    (s.safety.err.code = .noFault →
      exec (.checkSafety k) s = .next (s.respond .ok (.hostState k))) ∧
    (s.safety.err.code ≠ .noFault →
      exec (.checkSafety k) s = .next (State.respond { s with
        safety := { s.safety with errPub := s.safety.err, err := ⟨.noFault, []⟩ }
        log := s.log ++ [.errorCode s.safety.err.code s.safety.err.report] } .ok
          (.hostState 255))) ∧
    exec .clearError s = .next (State.respond { s with
      safety := { s.safety with err := ⟨.noFault, []⟩ } } .ok .none) ∧
    exec .clearErrorCode s = .next (State.respond { s with
      safety :=
        { err := ⟨.noFault, []⟩
          errPub := ⟨.noFault, []⟩
          winIlc := s.safety.winIlc.map (fun _ => false)
          winFe := s.safety.winFe.map (fun w => w.map (fun _ => false))
          winHpf := s.safety.winHpf.map (fun w => w.map (fun _ => false))
          winHpa := s.safety.winHpa.map (fun w => w.map (fun _ => false))
          trig := s.safety.trig.map (fun _ => false) }
      force := { s.force with momentWarnCnt := 0 } } .ok .none)

/-! ## Settings, reset, telemetry -/

/-- `SETTINGS_LOAD` (R326): refused while the block is busy, and for a configuration that is not
well-formed; else FRAME, FORCE, SAFETY and the in-range counters take their reset values in the sizes of
the new configuration, and the rest of RAISE, `LOG`, `ELEV` and `ELEV_VALID` are kept. Which configurations
are not well-formed, beyond what `AcceptedConfigIsWellFormed` says, is the model's reading
(notes/assumptions/12.md), and which of those R8 does not list are accepted its choice (31.md, 33.md). -/
def Obligations.SettingsLoad : Prop :=
  ∀ (s : State) (c : Cfg),
    ((∃ n, (s.frame.tx.get n).opened = true) ∨ s.raise.rstate = .running ∨ s.raise.rstate = .paused ∨
        s.safety.err.code ≠ .noFault →
      exec (.settingsLoad c) s = .next (s.respond .badState .none)) ∧
    ((∀ n, (s.frame.tx.get n).opened = false) → s.raise.rstate = .idle ∨ s.raise.rstate = .complete →
      s.safety.err.code = .noFault →
      (cfgOk c = false → exec (.settingsLoad c) s = .next (s.respond .badConfig .none)) ∧
      (cfgOk c = true → exec (.settingsLoad c) s = .next (State.respond { s with
        cfg := c
        cfgLoaded := true
        mapBuilt := false
        frame := FrameUnit.init c
        force := ForceUnit.init c
        safety := SafetyUnit.init c
        raise := { s.raise with hpc := PerHp.pure ⟨0, 0, 0, 0⟩ } } .ok .none)))

/-- `RESET` in every state, and `PULL_TELEMETRY` (R70, R96, R420): after `RESET` every register the spec
gives a reset value has it. That the words already given to the transport and the inputs still to come are
kept is the model's choice (notes/assumptions/18.md, 3.md). -/
def Obligations.ResetAndTelemetry : Prop :=
  ∀ (s : State) (v : F64),
    exec (.pullTelemetry v) s = .next (State.respond { s with elev := v, elevValid := true } .ok .none) ∧
    ∃ t, exec .reset s = .next t ∧ t.rsp = some ⟨.ok, .none⟩ ∧ t.txOut = s.txOut ∧ t.inputs = s.inputs ∧
      t.cfgLoaded = false ∧ t.mapBuilt = false ∧ t.elevValid = false ∧ t.log = [] ∧
      (∀ n a, mapGet (t.frame.ilcMap.get n) a = ⟨-1, -1, -1, -1, -1, .unknown⟩) ∧
      (∀ n, (t.frame.tx.get n).len = 0 ∧ (t.frame.tx.get n).start = 0 ∧ (t.frame.tx.get n).opened = false) ∧
      (∀ n, t.frame.rx.get n = [] ∧ t.frame.rxts.get n = 0) ∧
      (∀ x, x ∈ t.frame.afs → x = ⟨0, 0, 0, 0, 0⟩) ∧ (∀ h, t.frame.hps.get h = 0) ∧
      (∀ ty i, t.frame.expect ty i = 0) ∧
      t.frame.ilcWarn = ⟨0, -1, false, false, false, false, false, false, false, false, false, false⟩ ∧
      t.frame.anyTimeout = false ∧
      (∀ c, (t.force.fc.get c).state = .initialising ∧ Tri.zero (t.force.fc.get c).current = true ∧
        Tri.zero (t.force.fc.get c).target = true ∧ Tri.zero (t.force.fc.get c).offset = true ∧
        Tri.zero (t.force.fc.get c).preclipped = true ∧ Tri.zero (t.force.fc.get c).applied = true ∧
        anyFlag (t.force.fc.get c).clipWarn = false ∧ (t.force.fc.get c).anyClip = false) ∧
      Tri.zero t.force.fin.preclipped = true ∧ Tri.zero t.force.fin.applied = true ∧
      anyFlag t.force.fin.clipWarn = false ∧ t.force.fin.anyClip = false ∧
      (∀ v, v ∈ t.force.fin.primarySet ++ t.force.fin.secondarySet → v = 0) ∧
      t.force.res = ⟨0, 0, 0, 0, 0, 0, 0⟩ ∧ t.force.momentWarnCnt = 0 ∧
      t.safety.err = ⟨.noFault, []⟩ ∧ t.safety.errPub = ⟨.noFault, []⟩ ∧
      winSum t.safety.winIlc = 0 ∧ (∀ w, w ∈ t.safety.winFe → winSum w = 0) ∧
      (∀ h, winSum (t.safety.winHpf.get h) = 0 ∧ winSum (t.safety.winHpa.get h) = 0) ∧
      (∀ b, b ∈ t.safety.trig → b = false) ∧
      t.raise.rstate = .idle ∧ t.raise.rdir = .raise ∧ t.raise.timedOut = false ∧ t.raise.pct = 0 ∧
      f64IsNaN t.raise.deadline = true ∧ t.raise.remain = 0 ∧ t.raise.segStart = 0 ∧
      t.raise.bypass = false ∧ t.raise.stalled = false ∧ t.raise.waitAirLogged = false ∧
      (∀ h, t.raise.hpc.get h = ⟨0, 0, 0, 0⟩) ∧ t.raise.chase = false ∧ t.raise.moveRef = 0

/-! ## Raise and lower -/

/-- The raise and lower state machine (R341): the state and direction after every operation that answers
`OK`, in every state; a timeout sets `TIMEDOUT`. The refusals are in the statements of each operation. -/
def Obligations.RaiseTransitions : Prop :=
  ∀ (i : Instr) (s t : State) (d : RspData), exec i s = .next t → t.rsp = some ⟨.ok, d⟩ →
    (t.raise.rstate, t.raise.rdir) = raiseAfter i (s.raise.rstate, s.raise.rdir) ∧
      (i = .timeout → t.raise.timedOut = true)

/-- `RAISE_START` and `LOWER_START` (R344, R368): refused in a state the machine has no row for; a time
that is NaN or infinite is refused; else what each leaves in RAISE and in the components. -/
def Obligations.RaiseAndLowerStart : Prop :=
  ∀ (s : State) (bypass : Bool) (now : F64), s.ready = true →
    let t := s.disableComps [.azimuth, .velocity, .acceleration, .thermal, .balance, .activeOptic, .offset]
    let c := s.cfg.raise
    (s.raise.rstate ≠ .idle → exec (.raiseStart bypass now) s = .next (s.respond .badState .none)) ∧
    (s.raise.rstate = .running ∨ s.raise.rstate = .paused → s.raise.rdir = .lower →
      exec (.lowerStart now) s = .next (s.respond .badState .none)) ∧
    (s.raise.rstate = .idle →
      (f64IsFinite now = false →
        exec (.raiseStart bypass now) s = .next (s.respond .badOperand .none)) ∧
      (f64IsFinite now = true → exec (.raiseStart bypass now) s = .next (State.respond { t.enableComp .elevation with
        raise :=
          { rstate := .running, rdir := .raise, timedOut := false, pct := 0
            deadline := f64Add now c.raiseTimeout, remain := c.raiseTimeout, segStart := now
            bypass := bypass, stalled := false, waitAirLogged := false
            hpc := PerHp.pure ⟨0, 0, 0, 0⟩, chase := true, moveRef := s.raise.moveRef } } .ok
              .none))) ∧
    (s.raise.rstate = .idle ∨ s.raise.rstate = .complete ∨ s.raise.rdir = .raise →
      (f64IsFinite now = false →
        exec (.lowerStart now) s = .next (s.respond .badOperand .none)) ∧
      (f64IsFinite now = true → exec (.lowerStart now) s = .next (State.respond { t with
        raise := { s.raise with
          rstate := .running, rdir := .lower, timedOut := false
          deadline := f64Add now c.lowerTimeout, remain := c.lowerTimeout, segStart := now
          stalled := false, waitAirLogged := false
          hpc := PerHp.pure ⟨0, 0, 0, 0⟩, chase := true } } .ok .none)))

/-- `RAISE_RUNLOOP` (R346): refused unless raising; filled, held for air pressure, progressing,
stalled. -/
def Obligations.RaiseRunloop : Prop :=
  ∀ s : State, s.ready = true →
    (s.raise.rstate ≠ .running ∨ s.raise.rdir ≠ .raise →
      ∀ wait, exec (.raiseRunloop wait) s = .next (s.respond .badState .none)) ∧
    (s.raise.rstate = .running → s.raise.rdir = .raise →
    let ok := hpForcesOk s true && faFeOk s
    let p := f64Min f64Hundred (f64Add s.raise.pct s.cfg.raise.raiseInc)
    (f64Le f64Hundred s.raise.pct = true → ∀ wait,
      exec (.raiseRunloop wait) s = .next (s.respond .ok (.bool false))) ∧
    (f64Le f64Hundred s.raise.pct = false →
      exec (.raiseRunloop true) s = .next (State.respond { s with
        raise := { s.raise with waitAirLogged := true }
        log := if s.raise.waitAirLogged = true then s.log
          else s.log ++ [.raiseNote (asciiBytes "waiting for air pressure")] } .ok (.bool false)) ∧
      (ok = true →
        let t : State := { s with raise := { s.raise with
          waitAirLogged := false, stalled := false, pct := p
          chase := if f64Le f64Hundred p = true then false else s.raise.chase
          moveRef := if f64Le f64Hundred p = true ∧ s.raise.bypass = false then s.raise.moveRef + 1
            else s.raise.moveRef } }
        exec (.raiseRunloop false) s = .next
          ((if f64Lt s.cfg.raise.staticEnablePct p = true then t.enableComp .static else t).respond .ok
            (.bool true))) ∧
      (ok = false →
        exec (.raiseRunloop false) s = .next (State.respond { s with
          raise := { s.raise with waitAirLogged := false, stalled := true }
          log := if s.raise.stalled = true then s.log else s.log ++ [.raiseStall] } .ok
            (.bool false)))))

/-- The support percentage in the run loops (R347, R369): it never goes down while raising nor up while
lowering, and does not move at all where a tolerance check fails. -/
def Obligations.RunloopsAreMonotone : Prop :=
  ∀ (s t : State) (wait : Bool), ConfigInv s → PctInv s →
    (exec (.raiseRunloop wait) s = .next t → f64Le s.raise.pct t.raise.pct = true ∧
      ((hpForcesOk s true && faFeOk s) = false → t.raise.pct = s.raise.pct)) ∧
    (exec .lowerRunloop s = .next t → f64Le t.raise.pct s.raise.pct = true ∧
      ((hpForcesOk s false && faFeOk s) = false → t.raise.pct = s.raise.pct))

/-- The move to the reference position is commanded exactly once in a raise (R346, R61): over any number
of `RAISE_RUNLOOP` calls the count goes up by one if the percentage got filled in one of them and the
move is not bypassed, and else not at all. -/
def Obligations.MoveToReferenceOnce : Prop :=
  ∀ (s : State) (waits : List Bool), s.ready = true →
    s.raise.rstate = .running → s.raise.rdir = .raise → ∃ t,
    runSeq (waits.map .raiseRunloop) s = .next t ∧
    t.raise.moveRef = s.raise.moveRef +
      (if pctFilled s.raise.pct = false ∧ pctFilled t.raise.pct = true ∧ s.raise.bypass = false then 1
        else 0)

/-- `RAISE_CHECK_COMPLETE` and `RAISE_COMPLETE` (R349, R350): refused unless raising; the counters are
fed only once the percentage is filled and the motion complete; the components that end disabled and
enabled, the balance forces only if no in-range counter timed out, else a note that lists the hardpoints,
whose punctuation the rule leaves open (notes/assumptions/15.md); `PCT` 100, the deadline a NaN. -/
def Obligations.RaiseEnd : Prop :=
  ∀ s : State, s.ready = true →
    (s.raise.rstate ≠ .running ∨ s.raise.rdir ≠ .raise →
      exec .raiseComplete s = .next (s.respond .badState .none) ∧
      ∀ motion, exec (.raiseCheckComplete motion) s = .next (s.respond .badState .none)) ∧
    (s.raise.rstate = .running → s.raise.rdir = .raise →
    (∀ motion, f64Le f64Hundred s.raise.pct = false ∨ motion = false →
      exec (.raiseCheckComplete motion) s = .next (s.respond .ok (.bool false))) ∧
    (f64Le f64Hundred s.raise.pct = true →
      let c := s.cfg.raise
      let q := s.raise.hpc
      let f := s.frame.hps
      let q' : PerHp InRangeCounter := ⟨q.h0.sample c f.h0, q.h1.sample c f.h1, q.h2.sample c f.h2,
        q.h3.sample c f.h3, q.h4.sample c f.h4, q.h5.sample c f.h5⟩
      exec (.raiseCheckComplete true) s = .next ((s.setRaise { s.raise with hpc := q' }).respond .ok
        (.bool (q'.all (fun v => v.status c != .pending))))) ∧
    let t := ((s.disableComps [.acceleration, .activeOptic, .offset]).enableComps
      [.azimuth, .elevation, .static, .thermal]).disableComp .velocity
    let out := Hp.all.filter (fun h => (s.raise.hpc.get h).status s.cfg.raise == .timedOut)
    let text := asciiBytes "hardpoint in-range timeout: " ++ decimalList out
    ∃ nan, f64IsNaN nan = true ∧
      let u := { s.raise with pct := f64Hundred, deadline := nan, rstate := .complete }
      (out = [] → exec .raiseComplete s = .next
        (State.respond { t.enableComp .balance with raise := u } .ok .none)) ∧
      (out ≠ [] → exec .raiseComplete s = .next
        (State.respond { t with raise := u, log := s.log ++ [.raiseNote text] } .ok .none)))

/-- Timeout, pause, resume and reset (R353 to R357): the deadline fires only while running and never
when NaN; a timeout sets `TIMEDOUT` and notifies the direction's fault; a pause keeps the remaining
budget and makes the deadline a NaN; a resume sets a fresh one; a reset cancels and moves nothing. What they
do with a `now` that is not finite, for which R23 states no rule, is the model's reading
(notes/assumptions/23.md). -/
def Obligations.TimeoutPauseResumeReset : Prop :=
  ∀ (s : State) (now : F64), s.ready = true →
    let u := s.raise
    let code : FaultCode := match u.rdir with
      | .raise => .raiseOperationTimeout
      | .lower => .lowerOperationTimeout
    let out := State.notify { s with raise := { u with timedOut := true } } code true (reportOf code)
    let expired := !f64IsNaN u.deadline && f64Le u.deadline now
    (u.rstate = .idle ∨ u.rstate = .complete →
      exec .timeout s = .next (s.respond .badState .none)) ∧
    (u.rstate ≠ .running → exec (.pause now) s = .next (s.respond .badState .none)) ∧
    (u.rstate ≠ .paused → exec (.resume now) s = .next (s.respond .badState .none)) ∧
    (expired = false ∨ u.rstate ≠ .running →
      exec (.checkTimeout now) s = .next (s.respond .ok (.bool expired))) ∧
    (expired = true → u.rstate = .running →
      exec (.checkTimeout now) s = .next (out.respond .ok (.bool true))) ∧
    (u.rstate = .running ∨ u.rstate = .paused →
      exec .timeout s = .next (out.respond .ok .none)) ∧
    (u.rstate = .running → ∃ nan, f64IsNaN nan = true ∧
      exec (.pause now) s = .next (State.respond { s with raise := { u with
        remain := f64Sub u.remain (f64Sub now u.segStart), deadline := nan
        rstate := .paused } } .ok .none)) ∧
    (u.rstate = .paused → exec (.resume now) s = .next (State.respond { s with raise := { u with
      segStart := now, deadline := f64Add now u.remain, rstate := .running } } .ok .none)) ∧
    ∃ nan, f64IsNaN nan = true ∧ exec .rlReset s = .next (State.respond { s with raise := { u with
      rstate := .idle, deadline := nan, remain := 0, stalled := false, waitAirLogged := false
      timedOut := false, bypass := false, hpc := PerHp.pure ⟨0, 0, 0, 0⟩ } } .ok .none)

/-- The lowering operations (R369 to R371): refused unless lowering; the run loop filled down, progressing,
stalled; the check; the end. -/
def Obligations.Lowering : Prop :=
  ∀ s : State, s.ready = true →
    (s.raise.rstate ≠ .running ∨ s.raise.rdir ≠ .lower →
      exec .lowerRunloop s = .next (s.respond .badState .none) ∧
      exec .lowerCheckComplete s = .next (s.respond .badState .none) ∧
      exec .lowerComplete s = .next (s.respond .badState .none)) ∧
    (s.raise.rstate = .running → s.raise.rdir = .lower →
    let ok := hpForcesOk s false && faFeOk s
    let p := f64Max 0 (f64Sub s.raise.pct s.cfg.raise.lowerDec)
    (f64Le s.raise.pct 0 = true → exec .lowerRunloop s = .next (s.respond .ok (.bool false))) ∧
    (f64Le s.raise.pct 0 = false → ok = true →
      let t : State := { s with raise := { s.raise with
        stalled := false, pct := p, chase := if f64Le p 0 = true then false else s.raise.chase } }
      exec .lowerRunloop s = .next
        ((if f64Le p s.cfg.raise.staticEnablePct = true then t.disableComp .static else t).respond .ok
          (.bool true))) ∧
    (f64Le s.raise.pct 0 = false → ok = false →
      exec .lowerRunloop s = .next (State.respond { s with
        raise := { s.raise with stalled := true }
        log := if s.raise.stalled = true then s.log else s.log ++ [.raiseStall] } .ok
          (.bool false))) ∧
    exec .lowerCheckComplete s = .next (s.respond .ok (.bool (f64Le s.raise.pct 0))) ∧
    ∃ nan, f64IsNaN nan = true ∧
      exec .lowerComplete s = .next (State.respond { s.disableComps Comp.all with
        raise := { s.raise with pct := 0, chase := false, deadline := nan, rstate := .idle } } .ok
          .none))

/-- The support percentage's operations and the two tolerance predicates (R351, R352, R358 to R363). -/
def Obligations.SupportPercentAndTolerances : Prop :=
  ∀ s : State, s.ready = true →
    let p := s.raise.pct
    exec .spInc s = .next ((s.setPct (f64Min f64Hundred (f64Add p s.cfg.raise.raiseInc))).respond .ok
      .none) ∧
    exec .spDec s = .next ((s.setPct (f64Max 0 (f64Sub p s.cfg.raise.lowerDec))).respond .ok .none) ∧
    exec .spZero s = .next ((s.setPct 0).respond .ok .none) ∧
    exec .spFill s = .next ((s.setPct 0x4059000000000000).respond .ok .none) ∧
    exec .spFilled s = .next (s.respond .ok (.bool (f64Le 0x4059000000000000 p))) ∧
    exec .spZeroed s = .next (s.respond .ok (.bool (f64Le p 0))) ∧
    (∃ ok, exec .faFeInTol s = .next (s.respond .ok (.bool ok)) ∧
      (ok = true ↔ ∀ i, i < s.cfg.plant.nFA →
        let a := s.frame.afs.getD i ActuatorForce.init
        let tol := s.cfg.raise.feRaiseTol
        f32Le (f32Abs (f32Sub a.primary (s.force.fin.primarySet.getD i 0))) tol = true ∧
        (orientationOf s.cfg i = .singleAxis ∨
          f32Le (f32Abs (f32Sub a.secondary (s.force.fin.secondarySet.getD i 0))) tol = true))) ∧
    ∀ raise : Bool, ∃ ok, exec (.hpForcesInTol raise) s = .next (s.respond .ok (.bool ok)) ∧
      let b := if raise = true then s.cfg.raise.hpRaiseBand else s.cfg.raise.hpLowerBand
      (ok = true ↔ ∀ h, f32Le b.lo (s.frame.hps.get h) = true ∧ f32Le (s.frame.hps.get h) b.hi = true)

/-- The in-range counters (R364 to R367): a counter that is not `Pending` is frozen; a sample outside the
band around the midpoint, or the first one, starts a window; any other widens it; the status, with
`InRange` before `TimedOut`; reset; a hardpoint above 5 is refused. -/
def Obligations.InRangeCounters : Prop :=
  ∀ (s : State) (f : F32), s.ready = true →
    (∀ b : Byte, 5 < b.toNat →
      exec (.hpcSample b f) s = .next (s.respond .badOperand .none) ∧
      exec (.hpcReset b) s = .next (s.respond .badOperand .none) ∧
      exec (.hpcStatus b) s = .next (s.respond .badOperand .none)) ∧
    ∀ h : Hp,
      let b := BitVec.ofNat 8 h.number
      let v := s.raise.hpc.get h
      let c := s.cfg.raise
      let near := f32Le (f32Abs (f32Sub f (f32Div (f32Add v.lo v.hi) (f32OfNat 2)))) c.hpcBand
      exec (.hpcReset b) s = .next ((s.setHpc h ⟨0, 0, 0, 0⟩).respond .ok .none) ∧
      (c.hpcInRange ≤ v.run →
        exec (.hpcStatus b) s = .next (s.respond .ok (.hpcStatus .inRange))) ∧
      (v.run < c.hpcInRange → c.hpcMax ≤ v.total →
        exec (.hpcStatus b) s = .next (s.respond .ok (.hpcStatus .timedOut))) ∧
      (v.run < c.hpcInRange → v.total < c.hpcMax →
        exec (.hpcStatus b) s = .next (s.respond .ok (.hpcStatus .pending))) ∧
      (c.hpcInRange ≤ v.run ∨ c.hpcMax ≤ v.total →
        exec (.hpcSample b f) s = .next (s.respond .ok .none)) ∧
      (v.run < c.hpcInRange → v.total < c.hpcMax → v.run = 0 ∨ near = false →
        exec (.hpcSample b f) s = .next ((s.setHpc h ⟨f, f, 1, v.total + 1⟩).respond .ok .none)) ∧
      (v.run < c.hpcInRange → v.total < c.hpcMax → v.run ≠ 0 → near = true →
        exec (.hpcSample b f) s = .next
          ((s.setHpc h ⟨f32Min v.lo f, f32Max v.hi f, v.run + 1, v.total + 1⟩).respond .ok .none))
end

