-- ==== Sys2Proof/Laws/Banks.lean ====
section
/-! SUPPORT. Reading a bank after writing it, and the lists of the data-index spaces. -/

namespace Sys2Proof

theorem PerSubnet.get_set {α : Type} (p : PerSubnet α) (n m : Subnet) (v : α) :
    (p.set n v).get m = if n = m then v else p.get m := by cases n <;> cases m <;> rfl

@[simp] theorem PerSubnet.get_set_self {α : Type} (p : PerSubnet α) (n : Subnet) (v : α) :
    (p.set n v).get n = v := by cases n <;> rfl

theorem PerSubnet.get_set_ne {α : Type} (p : PerSubnet α) {n m : Subnet} (h : n ≠ m) (v : α) :
    (p.set n v).get m = p.get m := by rw [PerSubnet.get_set, if_neg h]

@[simp] theorem PerSubnet.get_pure {α : Type} (v : α) (n : Subnet) : (PerSubnet.pure v).get n = v := by
  cases n <;> rfl

theorem PerSubnet.ext_get {α : Type} {p q : PerSubnet α} (h : ∀ n, p.get n = q.get n) : p = q := by
  obtain ⟨a1, a2, a3, a4, a5⟩ := p
  obtain ⟨b1, b2, b3, b4, b5⟩ := q
  exact (PerSubnet.mk.injEq ..).mpr ⟨h .s1, h .s2, h .s3, h .s4, h .s5⟩

theorem PerComp.get_set {α : Type} (p : PerComp α) (n m : Comp) (v : α) :
    (p.set n v).get m = if n = m then v else p.get m := by cases n <;> cases m <;> rfl

@[simp] theorem PerComp.get_set_self {α : Type} (p : PerComp α) (n : Comp) (v : α) :
    (p.set n v).get n = v := by cases n <;> rfl

theorem PerComp.get_set_ne {α : Type} (p : PerComp α) {n m : Comp} (h : n ≠ m) (v : α) :
    (p.set n v).get m = p.get m := by rw [PerComp.get_set, if_neg h]

@[simp] theorem PerComp.get_pure {α : Type} (v : α) (n : Comp) : (PerComp.pure v).get n = v := by
  cases n <;> rfl

theorem PerHp.get_set {α : Type} (p : PerHp α) (n m : Hp) (v : α) :
    (p.set n v).get m = if n = m then v else p.get m := by cases n <;> cases m <;> rfl

@[simp] theorem PerHp.get_set_self {α : Type} (p : PerHp α) (n : Hp) (v : α) : (p.set n v).get n = v := by
  cases n <;> rfl

theorem PerHp.get_set_ne {α : Type} (p : PerHp α) {n m : Hp} (h : n ≠ m) (v : α) :
    (p.set n v).get m = p.get m := by rw [PerHp.get_set, if_neg h]

@[simp] theorem PerHp.get_pure {α : Type} (v : α) (n : Hp) : (PerHp.pure v).get n = v := by cases n <;> rfl

@[simp] theorem PerHp.get_map {α β : Type} (f : α → β) (p : PerHp α) (n : Hp) :
    (p.map f).get n = f (p.get n) := by cases n <;> rfl

theorem PerHp.all_iff {α : Type} (p : PerHp α) (f : α → Bool) : p.all f = true ↔ ∀ h, f (p.get h) = true := by
  constructor
  · intro hp h
    simp only [PerHp.all, Bool.and_eq_true] at hp
    cases h <;> simp [PerHp.get, hp]
  · intro hp
    have h0 := hp .h0
    have h1 := hp .h1
    have h2 := hp .h2
    have h3 := hp .h3
    have h4 := hp .h4
    have h5 := hp .h5
    simp only [PerHp.get] at h0 h1 h2 h3 h4 h5
    simp [PerHp.all, h0, h1, h2, h3, h4, h5]

@[simp] theorem Subnet.ofByte_number (n : Subnet) : Subnet.ofByte n.number = some n := by cases n <;> rfl

theorem Subnet.ofByte_eq_some {b : Byte} {n : Subnet} (h : Subnet.ofByte b = some n) : b = n.number := by
  unfold Subnet.ofByte at h
  split at h <;> first | (cases h; rename_i hb; exact BitVec.eq_of_toNat_eq hb) | cases h

/-- The numbers that are no subnet (R89). -/
theorem Subnet.ofByte_eq_none_iff (b : Byte) :
    Subnet.ofByte b = none ↔ ¬ (1 ≤ b.toNat ∧ b.toNat ≤ 5) := by
  revert b; decide

theorem Comp.ofByte_eq_none_iff (b : Byte) : Comp.ofByte b = none ↔ 8 < b.toNat := by
  revert b; decide

theorem Hp.ofByte_eq_none_iff (b : Byte) : Hp.ofByte b = none ↔ 5 < b.toNat := by
  revert b; decide

@[simp] theorem modifyAt_length {α : Type} (l : List α) (i : Nat) (f : α → α) :
    (modifyAt l i f).length = l.length := by
  induction l generalizing i with
  | nil => rfl
  | cons a r ih => cases i <;> simp [modifyAt, ih]

theorem modifyAt_getD {α : Type} (l : List α) (i j : Nat) (f : α → α) (d : α) (h : i < l.length) :
    (modifyAt l i f).getD j d = if i = j then f (l.getD j d) else l.getD j d := by
  induction l generalizing i j with
  | nil => simp at h
  | cons a r ih =>
    cases i <;> cases j <;> simp_all [modifyAt]

theorem mem_modifyAt {α : Type} {l : List α} {i : Nat} {f : α → α} {x : α} (h : x ∈ modifyAt l i f) :
    x ∈ l ∨ ∃ y, y ∈ l ∧ x = f y := by
  induction l generalizing i with
  | nil => simp [modifyAt] at h
  | cons a r ih =>
    cases i with
    | zero =>
      simp only [modifyAt, List.mem_cons] at h
      rcases h with h | h
      · exact .inr ⟨a, by simp, h⟩
      · exact .inl (by simp [h])
    | succ i =>
      simp only [modifyAt, List.mem_cons] at h
      rcases h with h | h
      · exact .inl (by simp [h])
      · rcases ih h with h | ⟨y, hy, rfl⟩
        · exact .inl (by simp [h])
        · exact .inr ⟨y, by simp [hy], rfl⟩

@[simp] theorem Comp.ofByte_number (c : Comp) : Comp.ofByte (BitVec.ofNat 8 c.number) = some c := by
  cases c <;> rfl

@[simp] theorem Hp.ofByte_number (h : Hp) : Hp.ofByte (BitVec.ofNat 8 h.number) = some h := by
  cases h <;> rfl

end Sys2Proof
end

