-- ==== Sys2Proof/Laws/Codec.lean ====
section
/-! SUPPORT. Each reader of the port record reads back what its encoder writes, and leaves the bytes after
it (Decode.lean; notes/assumptions/1.md). -/

namespace Sys2Proof

/-- A reader takes exactly these bytes for a value, whatever follows them. -/
def Reads {α : Type} (r : Reader α) (bs : List Byte) (a : α) : Prop :=
  ∀ rest, r (bs ++ rest) = some (a, rest)

/-! ## Numbers -/

@[simp] theorem beBytes_length (n v : Nat) : (beBytes n v).length = n := by
  induction n with
  | zero => rfl
  | succ n ih => simp [beBytes, ih]

theorem foldl_bytes (l : List Byte) (a : Nat) :
    l.foldl (fun a b => a * 256 + b.toNat) a = a * 256 ^ l.length + beNat l := by
  induction l generalizing a with
  | nil => show a = a * 256 ^ 0 + 0; rw [Nat.pow_zero]; omega
  | cons c r ih =>
    have h0 : beNat (c :: r) = r.foldl (fun a b => a * 256 + b.toNat) (0 * 256 + c.toNat) := rfl
    rw [List.foldl_cons, ih, h0, ih, List.length_cons, Nat.pow_succ]
    ring

theorem beNat_cons (b : Byte) (bs : List Byte) : beNat (b :: bs) = b.toNat * 256 ^ bs.length + beNat bs := by
  have h := foldl_bytes bs (0 * 256 + b.toNat)
  have h0 : beNat (b :: bs) = bs.foldl (fun a b => a * 256 + b.toNat) (0 * 256 + b.toNat) := rfl
  rw [h0, h, Nat.zero_mul, Nat.zero_add]

theorem beNat_beBytes (n v : Nat) : beNat (beBytes n v) = v % 256 ^ n := by
  induction n with
  | zero => rw [Nat.pow_zero, Nat.mod_one]; rfl
  | succ n ih =>
    have hm : v % 256 ^ (n + 1) = v % 256 ^ n + 256 ^ n * (v / 256 ^ n % 256) := by
      rw [Nat.pow_succ]; exact Nat.mod_mul
    rw [beBytes, beNat_cons, ih, beBytes_length, BitVec.toNat_ofNat, hm]
    generalize 256 ^ n = k
    show v / k % 256 * k + v % k = v % k + k * (v / k % 256)
    ring

theorem beNat_lt (bs : List Byte) : beNat bs < 256 ^ bs.length := by
  induction bs with
  | nil => show 0 < 256 ^ 0; rw [Nat.pow_zero]; omega
  | cons b r ih =>
    rw [beNat_cons, List.length_cons, Nat.pow_succ]
    have hb := b.isLt
    generalize 256 ^ r.length = k at ih ⊢
    have : b.toNat * k ≤ 255 * k := Nat.mul_le_mul_right k (by omega)
    omega

/-- The two's-complement value of a truncated integer in range is the integer (R10). -/
theorem signedNat_truncInt {n : Nat} (hn : 1 ≤ n) {v : Int} (h : intFits (8 * n) v = true) :
    signedNat n (truncInt n v) = v := by
  simp only [intFits, Bool.and_eq_true, decide_eq_true_eq] at h
  obtain ⟨h1, h2⟩ := h
  have hp : (2 : Int) ^ (8 * n) = 2 * 2 ^ (8 * n - 1) := by
    rw [← pow_succ']; congr 1; omega
  have hpos : (0 : Int) < 2 ^ (8 * n - 1) := by positivity
  have hc : ((2 ^ (8 * n - 1) : Nat) : Int) = 2 ^ (8 * n - 1) := by norm_num
  unfold signedNat truncInt
  by_cases hv : 0 ≤ v
  · have hm : v % 2 ^ (8 * n) = v := Int.emod_eq_of_lt hv (by omega)
    rw [hm, if_pos (by omega)]
    omega
  · have hm : v % 2 ^ (8 * n) = v + 2 ^ (8 * n) := by
      rw [← Int.add_emod_right]
      exact Int.emod_eq_of_lt (by omega) (by omega)
    rw [hm, if_neg (by omega)]
    have : ((v + 2 ^ (8 * n)).toNat : Int) = v + 2 ^ (8 * n) := Int.toNat_of_nonneg (by omega)
    omega

theorem truncInt_lt (n : Nat) (v : Int) : truncInt n v < 256 ^ n := by
  have h : (0 : Int) < 2 ^ (8 * n) := by positivity
  have h1 := Int.emod_nonneg v (ne_of_gt h)
  have h2 := Int.emod_lt_of_pos v h
  have hc : ((256 ^ n : Nat) : Int) = 2 ^ (8 * n) := by
    rw [pow_mul]; norm_num
  unfold truncInt
  omega

/-! ## Combinators -/

theorem reads_pure {α : Type} (a : α) : Reads (rPure a) [] a := fun _ => rfl

theorem reads_ap {α β : Type} {rf : Reader (α → β)} {ra : Reader α} {b1 b2 : List Byte} {f : α → β} {a : α}
    (hf : Reads rf b1 f) (ha : Reads ra b2 a) : Reads (rAp rf ra) (b1 ++ b2) (f a) := by
  intro rest
  unfold rAp
  rw [List.append_assoc, hf]
  simp only [ha rest]

theorem reads_r1 {α β : Type} (f : α → β) {ra : Reader α} {b : List Byte} {a : α} (h : Reads ra b a) :
    Reads (r1 f ra) b (f a) := reads_ap (reads_pure f) h

theorem reads_r2 {α β γ : Type} (f : α → β → γ) {ra : Reader α} {rb : Reader β} {b1 b2 : List Byte} {x : α}
    {y : β} (hx : Reads ra b1 x) (hy : Reads rb b2 y) : Reads (r2 f ra rb) (b1 ++ b2) (f x y) :=
  reads_ap (reads_r1 f hx) hy

theorem reads_r3 {α β γ δ : Type} (f : α → β → γ → δ) {ra : Reader α} {rb : Reader β} {rc : Reader γ}
    {b1 b2 b3 : List Byte} {x : α} {y : β} {z : γ} (hx : Reads ra b1 x) (hy : Reads rb b2 y)
    (hz : Reads rc b3 z) : Reads (r3 f ra rb rc) (b1 ++ b2 ++ b3) (f x y z) :=
  reads_ap (reads_r2 f hx hy) hz

theorem reads_r4 {α β γ δ ε : Type} (f : α → β → γ → δ → ε) {ra : Reader α} {rb : Reader β}
    {rc : Reader γ} {rd : Reader δ} {b1 b2 b3 b4 : List Byte} {x : α} {y : β} {z : γ} {w : δ}
    (hx : Reads ra b1 x) (hy : Reads rb b2 y) (hz : Reads rc b3 z) (hw : Reads rd b4 w) :
    Reads (r4 f ra rb rc rd) (b1 ++ b2 ++ b3 ++ b4) (f x y z w) :=
  reads_ap (reads_r3 f hx hy hz) hw

theorem reads_u8 (b : Byte) : Reads rU8 [b] b := fun _ => rfl

theorem reads_filter {α β : Type} {f : α → Option β} {ra : Reader α} {bs : List Byte} {a : α} {b : β}
    (ha : Reads ra bs a) (hf : f a = some b) : Reads (rFilter f ra) bs b := by
  intro rest
  unfold rFilter
  rw [ha rest]
  simp only [hf]

theorem reads_num {n v : Nat} (h : v < 256 ^ n) : Reads (rNum n) (beBytes n v) v := by
  intro rest
  unfold rNum
  rw [if_neg (by simp), List.take_left' (beBytes_length n v), List.drop_left' (beBytes_length n v),
    beNat_beBytes, Nat.mod_eq_of_lt h]

theorem reads_nat {n : Nat} (h : natFits n = true) : Reads rNat (eNat n) n :=
  reads_num (by simpa [natFits] using h)

theorem reads_bitVec {w n : Nat} (hn : 2 ^ w ≤ 256 ^ n) (v : BitVec w) :
    Reads (r1 (BitVec.ofNat w) (rNum n)) (beBytes n v.toNat) v := by
  have h := reads_r1 (BitVec.ofNat w) (reads_num (n := n) (lt_of_lt_of_le v.isLt hn))
  rwa [BitVec.ofNat_toNat, BitVec.setWidth_eq] at h

theorem reads_u16 (v : Word16) : Reads rU16 (eU16 v) v := reads_bitVec (by norm_num) v
theorem reads_u32 (v : BitVec 32) : Reads rU32 (eU32 v) v := reads_bitVec (by norm_num) v
theorem reads_u64 (v : BitVec 64) : Reads rU64 (eU64 v) v := reads_bitVec (by norm_num) v

theorem reads_int {n : Nat} (hn : 1 ≤ n) {v : Int} (h : intFits (8 * n) v = true) :
    Reads (r1 (signedNat n) (rNum n)) (beBytes n (truncInt n v)) v := by
  have h' := reads_r1 (signedNat n) (reads_num (n := n) (truncInt_lt n v))
  rwa [signedNat_truncInt hn h] at h'

theorem reads_bool (b : Bool) : Reads rBool (eBool b) b := by
  cases b <;> exact reads_filter (reads_u8 _) rfl

/-! ## Lists and options -/

theorem reads_repeat {α : Type} {ra : Reader α} {e : α → List Byte} {l : List α}
    (h : ∀ a, a ∈ l → Reads ra (e a) a) : Reads (rRepeat ra l.length) (l.flatMap e) l := by
  induction l with
  | nil => intro rest; rfl
  | cons a r ih =>
    intro rest
    have ha := h a List.mem_cons_self
    have hr := ih (fun x hx => h x (List.mem_cons_of_mem _ hx))
    simp only [List.length_cons, rRepeat, List.flatMap_cons, List.append_assoc]
    rw [ha]
    simp only [hr rest]

theorem reads_list {α : Type} {ra : Reader α} {e : α → List Byte} {l : List α} (hl : listFits l = true)
    (h : ∀ a, a ∈ l → Reads ra (e a) a) : Reads (rList ra) (eList e l) l := by
  intro rest
  have hn : l.length < 256 ^ 4 := by simpa [listFits] using hl
  unfold rList eList
  rw [List.append_assoc, reads_num hn]
  exact reads_repeat h rest

theorem reads_option {α : Type} {ra : Reader α} {e : α → List Byte} {o : Option α}
    (h : ∀ a, o = some a → Reads ra (e a) a) : Reads (rOption ra) (eOption e o) o := by
  intro rest
  cases o with
  | none => rfl
  | some a =>
    have hb : rBool ((1 : Byte) :: (e a ++ rest)) = some (true, e a ++ rest) := rfl
    unfold rOption eOption
    rw [List.cons_append, hb]
    simp only [h a rfl rest]

theorem reads_bytes {l : List Byte} (h : listFits l = true) : Reads rBytes (eBytes l) l :=
  reads_list h (fun b _ => reads_u8 b)
theorem reads_words {l : List Word16} (h : listFits l = true) : Reads rWords (eWords l) l :=
  reads_list h (fun v _ => reads_u16 v)
theorem reads_f32s {l : List F32} (h : listFits l = true) : Reads rF32s (eF32s l) l :=
  reads_list h (fun v _ => reads_u32 v)
theorem reads_optU8 (o : Option Byte) : Reads rOptU8 (eOptU8 o) o := reads_option (fun b _ => reads_u8 b)

/-! ## Enumerations and cells -/

theorem reads_dirKind (k : DirKind) : Reads rDirKind [k.code] k := reads_filter (reads_u8 _) (by cases k <;> rfl)
theorem reads_actType (t : ActType) : Reads rActType [t.code] t := reads_filter (reads_u8 _) (by cases t <;> rfl)
theorem reads_fnCode (f : FnCode) : Reads rFnCode [f.code] f := reads_filter (reads_u8 _) (by cases f <;> rfl)
theorem reads_orientation (o : Orientation) : Reads rOrientation [o.code] o :=
  reads_filter (reads_u8 _) (by cases o <;> rfl)
theorem reads_floatOrder (o : FloatOrder) : Reads rFloatOrder [o.code] o :=
  reads_filter (reads_u8 _) (by cases o <;> rfl)
theorem reads_faultCode (c : FaultCode) : Reads rFaultCode (eFaultCode c) c :=
  reads_filter (reads_u8 _) (by cases c <;> rfl)
theorem reads_nibble (v : BitVec 4) : Reads rNibble [BitVec.zeroExtend 8 v] v :=
  reads_filter (reads_u8 _) (by revert v; decide)

theorem reads_cell {c : Cell} (h : c.fits = true) : Reads rCell (eCell c) c := by
  intro rest
  cases c with
  | data b => rfl
  | swTrigger => rfl
  | triggerIrq => rfl
  | endOfFrame => rfl
  | directive k us =>
    have hr := reads_r2 Cell.directive (reads_dirKind k) (reads_nat (n := us) h) rest
    exact hr

/-- A buffer operand. -/
theorem reads_buf {l : List Cell} (hl : listFits l = true) (hc : l.all Cell.fits = true) :
    Reads rBuf (eBuf l) l :=
  reads_list hl (fun c h => reads_cell (List.all_eq_true.mp hc c h))

/-- The operand record of an `APPEND`. -/
theorem reads_args {a : AppendArgs} (h : listFits a.extra = true) : Reads rArgs (eArgs a) a := by
  have := reads_r3 AppendArgs.mk (reads_option (o := a.primary) (fun v _ => reads_u32 v))
    (reads_option (o := a.secondary) (fun v _ => reads_u32 v)) (reads_bytes h)
  rw [List.append_assoc] at this
  exact this

end Sys2Proof
end

