-- ==== Sys2Proof/Laws/CfgCodec.lean ====
section
/-! SUPPORT. The readers of a configuration record read back what the encoder writes. -/

namespace Sys2Proof

theorem reads_vec3 (v : Vec3) : Reads rVec3 (eVec3 v) v := by
  have h := reads_r3 Vec3.mk (reads_u32 v.x) (reads_u32 v.y) (reads_u32 v.z)
  rw [List.append_assoc] at h
  exact h

theorem reads_band (b : Band) : Reads rBand (eBand b) b := reads_r2 Band.mk (reads_u32 b.lo) (reads_u32 b.hi)

theorem reads_tri32 {t : Tri F32} (h : triFits t = true) : Reads (rTri rU32) (eTri eU32 t) t := by
  simp only [triFits, Bool.and_eq_true] at h
  have r := reads_r3 Tri.mk (reads_list (e := eU32) h.1.1 (fun v _ => reads_u32 v))
    (reads_list (e := eU32) h.1.2 (fun v _ => reads_u32 v)) (reads_list (e := eU32) h.2 (fun v _ => reads_u32 v))
  rw [List.append_assoc] at r
  exact r

theorem reads_limits {l : Limits} (h : l.fits = true) : Reads rLimits (eLimits l) l := by
  simp only [Limits.fits, Bool.and_eq_true] at h
  exact reads_r2 Limits.mk (reads_tri32 h.1) (reads_tri32 h.2)

theorem reads_perSubnet {α : Type} {r : Reader α} {e : α → List Byte} {p : PerSubnet α}
    (h : ∀ n : α, n ∈ [p.s1, p.s2, p.s3, p.s4, p.s5] → Reads r (e n) n) :
    Reads (rPerSubnet r) (ePerSubnet e p) p := by
  have k := reads_ap (reads_r4 PerSubnet.mk (h p.s1 (by simp)) (h p.s2 (by simp)) (h p.s3 (by simp))
    (h p.s4 (by simp))) (h p.s5 (by simp))
  simp only [List.append_assoc] at k
  exact k

theorem reads_perComp {α : Type} {r : Reader α} {e : α → List Byte} {p : PerComp α}
    (h : ∀ n : α, n ∈ [p.static, p.elevation, p.azimuth, p.velocity, p.acceleration, p.thermal, p.balance,
      p.activeOptic, p.offset] → Reads r (e n) n) : Reads (rPerComp r) (ePerComp e p) p := by
  have k := reads_ap (reads_ap (reads_ap (reads_ap (reads_ap
    (reads_r4 PerComp.mk (h p.static (by simp)) (h p.elevation (by simp)) (h p.azimuth (by simp))
      (h p.velocity (by simp))) (h p.acceleration (by simp))) (h p.thermal (by simp)))
        (h p.balance (by simp))) (h p.activeOptic (by simp))) (h p.offset (by simp))
  simp only [List.append_assoc] at k
  exact k

theorem reads_perWindow {p : PerWindow Nat} (h : p.all natFits = true) :
    Reads (rPerWindow rNat) (ePerWindow eNat p) p := by
  simp only [PerWindow.all, Bool.and_eq_true] at h
  have k := reads_r4 PerWindow.mk (reads_nat h.1.1.1) (reads_nat h.1.1.2) (reads_nat h.1.2) (reads_nat h.2)
  simp only [List.append_assoc] at k
  exact k

theorem reads_tableSet (t : TableSet) : Reads rTableSet (eTableSet t) t := by
  intro rest
  cases t with
  | openSet n => exact reads_r1 TableSet.openSet (reads_u16 n) rest
  | tc => rfl
  | tcHigh => rfl

theorem reads_entry (e : IlcEntry) : Reads rEntry (eEntry e) e := by
  have k := reads_ap (reads_ap (reads_r4 IlcEntry.mk (reads_u32 e.actuatorId) (reads_u32 e.dataIndex)
    (reads_u32 e.secondaryDataIndex) (reads_u32 e.xDataIndex)) (reads_u32 e.yDataIndex))
    (reads_actType e.type)
  simp only [List.append_assoc] at k
  exact k

theorem reads_row (r : ActuatorRow) : Reads rRow (eRow r) r := by
  have k := reads_r3 ActuatorRow.mk (reads_entry r.entry) (reads_u8 r.subnet) (reads_u8 r.address)
  simp only [List.append_assoc] at k
  exact k

theorem reads_directive {d : DirectiveEntry} (h : natFits d.us = true) :
    Reads rDirectiveEntry (eDirectiveEntry d) d := by
  have k := reads_r3 DirectiveEntry.mk (reads_dirKind d.kind) (reads_nat h) (reads_u16 d.word)
  simp only [List.append_assoc] at k
  exact k

theorem reads_timing {t : TimingEntry} (h : natFits t.us = true) : Reads rTimingEntry (eTimingEntry t) t := by
  have k := reads_r3 TimingEntry.mk (reads_fnCode t.code) (reads_dirKind t.kind) (reads_nat h)
  simp only [List.append_assoc] at k
  exact k

theorem reads_recognised (p : RecognisedPair) : Reads rRecognised (eRecognised p) p :=
  reads_r2 RecognisedPair.mk (reads_actType p.type) (reads_fnCode p.code)

theorem reads_nbr {l : List (List Nat)} (h : nbrFits l = true) :
    Reads (rList (rList rNat)) (eList (eList eNat) l) l := by
  simp only [nbrFits, Bool.and_eq_true, List.all_eq_true] at h
  exact reads_list h.1 (fun m hm => reads_list (h.2 m hm).1 (fun n hn => reads_nat ((h.2 m hm).2 n hn)))

theorem reads_plant {c : PlantCfg} (h : c.fits = true) : Reads rPlant (ePlant c) c := by
  simp only [PlantCfg.fits, PerSubnet.all, Bool.and_eq_true] at h
  obtain ⟨⟨⟨⟨⟨⟨⟨h1, h2⟩, h3⟩, h4⟩, h5⟩, h6⟩, h7⟩, ⟨⟨⟨⟨a1, a2⟩, a3⟩, a4⟩, a5⟩⟩ := h
  have k := reads_ap (reads_ap (reads_ap (reads_ap (reads_r4 PlantCfg.mk (reads_nat h1) (reads_nat h2)
    (reads_nat h3) (reads_list (e := eRow) h4 (fun r _ => reads_row r)))
    (reads_list (e := fun o : Orientation => [o.code]) h5 (fun o _ => reads_orientation o)))
    (reads_list (e := eU32) h6 (fun v _ => reads_u32 v)))
    (reads_list (e := eU32) h7 (fun v _ => reads_u32 v)))
    (reads_perSubnet (r := rBytes) (e := eBytes) (p := c.subnetAddrs) (by
      intro l hl
      simp only [List.mem_cons, List.not_mem_nil, or_false] at hl
      rcases hl with rfl | rfl | rfl | rfl | rfl <;> apply reads_bytes <;> assumption))
  simp only [List.append_assoc] at k
  exact k

theorem reads_wire {w : WireCfg} (h : w.fits = true) : Reads rWire (eWire w) w := by
  simp only [WireCfg.fits, Bool.and_eq_true, List.all_eq_true] at h
  have k := reads_ap (reads_ap (reads_r4 WireCfg.mk (reads_words h.1.1) (reads_u16 w.swTrigger)
    (reads_u16 w.triggerIrq) (reads_u16 w.txEndOfFrame))
    (reads_list (e := eDirectiveEntry) h.1.2 (fun d hd => reads_directive (h.2 d hd)))) (reads_nibble w.rxEofTag)
  simp only [List.append_assoc] at k
  exact k

theorem reads_frameCfg {c : FrameCfg} (h : c.fits = true) : Reads rFrameCfg (eFrameCfg c) c := by
  simp only [FrameCfg.fits, Bool.and_eq_true, List.all_eq_true] at h
  obtain ⟨⟨⟨⟨⟨⟨h1, h2⟩, h3⟩, h4⟩, h5⟩, h6⟩, h7⟩ := h
  have k := reads_ap (reads_ap (reads_ap (reads_ap (reads_r4 FrameCfg.mk
    (reads_list (e := eTimingEntry) h1 (fun t ht => reads_timing (h2 t ht))) (reads_wire h3)
    (reads_floatOrder c.floatOrder) (reads_list (e := eRecognised) h4 (fun p _ => reads_recognised p)))
    (reads_bool c.excDecrements)) (reads_nat h5)) (reads_nat h6)) (reads_nat h7)
  simp only [List.append_assoc] at k
  exact k

theorem reads_forceCfg {c : ForceCfg} (h : c.fits = true) : Reads rForceCfg (eForceCfg c) c := by
  simp only [ForceCfg.fits, PerComp.all, Bool.and_eq_true] at h
  obtain ⟨⟨⟨⟨⟨h1, h2⟩, h3⟩, h4⟩, h5⟩, h6⟩ := h
  have k := reads_ap (reads_ap (reads_ap (reads_ap (reads_ap (reads_ap (reads_ap (reads_ap (reads_ap
    (reads_ap (reads_ap (reads_r4 ForceCfg.mk
      (reads_perComp (r := rLimits) (e := eLimits) (p := c.limits) (by
        intro l hl
        simp only [List.mem_cons, List.not_mem_nil, or_false] at hl
        rcases hl with rfl | rfl | rfl | rfl | rfl | rfl | rfl | rfl | rfl <;> apply reads_limits <;> simp [h1]))
      (reads_limits h2)
      (reads_perComp (r := rU32) (e := eU32) (p := c.maxRate) (fun v _ => reads_u32 v))
      (reads_u32 c.nearZeroEps))
    (reads_list (e := eVec3) h3 (fun v _ => reads_vec3 v))) (reads_vec3 c.momentFault))
    (reads_vec3 c.momentWarn)) (reads_nat h4)) (reads_nbr h5)) (reads_nbr h6)) (reads_u32 c.nearAbs))
    (reads_u32 c.nearRel)) (reads_u32 c.farAbs)) (reads_u32 c.farRel)) (reads_u32 c.weightTol)
  simp only [List.append_assoc] at k
  exact k

theorem reads_safetyCfg {c : SafetyCfg} (h : c.fits = true) : Reads rSafetyCfg (eSafetyCfg c) c := by
  simp only [SafetyCfg.fits, Bool.and_eq_true] at h
  obtain ⟨⟨⟨⟨h1, h2⟩, h3⟩, h4⟩, h5⟩ := h
  have k := reads_ap (reads_r4 SafetyCfg.mk (reads_list (e := eFaultCode) h1 (fun f _ => reads_faultCode f))
    (reads_perWindow h2) (reads_perWindow h3) (reads_nat h4)) (reads_nat h5)
  simp only [List.append_assoc] at k
  exact k

theorem reads_raiseCfg {c : RaiseCfg} (h : c.fits = true) : Reads rRaiseCfg (eRaiseCfg c) c := by
  simp only [RaiseCfg.fits, Bool.and_eq_true] at h
  have k := reads_ap (reads_ap (reads_ap (reads_ap (reads_ap (reads_ap (reads_ap (reads_r4 RaiseCfg.mk
    (reads_u64 c.raiseInc) (reads_u64 c.lowerDec) (reads_u64 c.staticEnablePct) (reads_u64 c.raiseTimeout))
    (reads_u64 c.lowerTimeout)) (reads_u32 c.feRaiseTol)) (reads_band c.hpRaiseBand))
    (reads_band c.hpLowerBand)) (reads_u32 c.hpcBand)) (reads_nat h.1)) (reads_nat h.2)
  simp only [List.append_assoc] at k
  exact k

/-- The record of `SETTINGS_LOAD`. -/
theorem reads_cfg {c : Cfg} (h : c.fits = true) : Reads rCfg (eCfg c) c := by
  simp only [Cfg.fits, Bool.and_eq_true] at h
  obtain ⟨⟨⟨⟨h1, h2⟩, h3⟩, h4⟩, h5⟩ := h
  have k := reads_ap (reads_ap (reads_r4 Cfg.mk (reads_plant h1) (reads_tableSet c.tables)
    (reads_frameCfg h2) (reads_forceCfg h3)) (reads_safetyCfg h4)) (reads_raiseCfg h5)
  simp only [List.append_assoc] at k
  exact k

end Sys2Proof
end

