-- ==== Sys2Proof/Laws/Float.lean ====
section
/-! SUPPORT. Rounding (spec/43_force_pipeline.md R267): it is monotone, and exact on a value the format
has. -/

namespace Sys2Proof

theorem roundEven_le_of_le_mul {n d k : Nat} (hd : 0 < d) (h : n ≤ k * d) : roundEven n d ≤ k := by
  have hq : n / d ≤ k := Nat.div_le_of_le_mul (by rw [Nat.mul_comm]; exact h)
  have hm := Nat.div_add_mod n d
  rcases Nat.lt_or_eq_of_le hq with hlt | heq
  · unfold roundEven
    simp only
    split
    · omega
    · split <;> omega
  · have hr : n % d = 0 := by
      rw [heq, Nat.mul_comm] at hm
      omega
    unfold roundEven
    simp only [hr, heq]
    rw [if_pos (by omega)]

theorem le_roundEven_of_mul_le {n d k : Nat} (hd : 0 < d) (h : k * d ≤ n) : k ≤ roundEven n d := by
  have hq : k ≤ n / d := (Nat.le_div_iff_mul_le hd).mpr h
  unfold roundEven
  simp only
  split
  · exact hq
  · split <;> omega

theorem roundEven_mono {n m d : Nat} (hd : 0 < d) (h : n ≤ m) : roundEven n d ≤ roundEven m d := by
  have hq : n / d ≤ m / d := Nat.div_le_div_right h
  rcases Nat.lt_or_eq_of_le hq with hlt | heq
  · have h1 : roundEven n d ≤ n / d + 1 := by
      unfold roundEven
      simp only
      split
      · omega
      · split <;> omega
    have h2 : m / d ≤ roundEven m d := le_roundEven_of_mul_le hd (Nat.div_mul_le_self m d)
    omega
  · have hn := Nat.div_add_mod n d
    have hm := Nat.div_add_mod m d
    have hr : n % d ≤ m % d := by
      rw [heq] at hn
      omega
    unfold roundEven
    simp only [heq]
    split <;> split <;> (try split) <;> (try split) <;> omega

theorem roundEven_mul (k : Nat) {d : Nat} (hd : 0 < d) : roundEven (k * d) d = k :=
  Nat.le_antisymm (roundEven_le_of_le_mul hd (Nat.le_refl _)) (le_roundEven_of_mul_le hd (Nat.le_refl _))

/-- Rounding a whole number of units is monotone. -/
theorem roundMag_mono (f : Fmt) {n m : Nat} (h : n ≤ m) : f.roundMag n 1 ≤ f.roundMag m 1 := by
  have hl : Nat.log2 n ≤ Nat.log2 m := by
    rw [Nat.log2_eq_log_two, Nat.log2_eq_log_two]; exact Nat.log_mono_right h
  unfold Fmt.roundMag
  simp only [Nat.div_one, Nat.one_mul]
  suffices hs : (Nat.log2 n - f.frac) * 2 ^ f.frac + roundEven n (2 ^ (Nat.log2 n - f.frac)) ≤
      (Nat.log2 m - f.frac) * 2 ^ f.frac + roundEven m (2 ^ (Nat.log2 m - f.frac)) by omega
  have hsh : Nat.log2 n - f.frac ≤ Nat.log2 m - f.frac := by omega
  rcases Nat.lt_or_eq_of_le hsh with hlt | heq
  · have hmne : m ≠ 0 := by
      rintro rfl
      simp at hlt
    have hm : 2 ^ f.frac * 2 ^ (Nat.log2 m - f.frac) ≤ m := by
      rw [← Nat.pow_add, show f.frac + (Nat.log2 m - f.frac) = Nat.log2 m by omega]
      exact Nat.log2_self_le hmne
    have h2 := le_roundEven_of_mul_le (Nat.two_pow_pos _) hm
    have hn : n ≤ 2 ^ (f.frac + 1) * 2 ^ (Nat.log2 n - f.frac) := by
      rw [← Nat.pow_add]
      exact Nat.le_of_lt (Nat.lt_of_lt_of_le Nat.lt_log2_self (Nat.pow_le_pow_right (by omega) (by omega)))
    have h1 := roundEven_le_of_le_mul (Nat.two_pow_pos _) hn
    have h3 : (Nat.log2 n - f.frac + 1) * 2 ^ f.frac ≤ (Nat.log2 m - f.frac) * 2 ^ f.frac :=
      Nat.mul_le_mul_right _ hlt
    rw [Nat.add_mul, Nat.one_mul] at h3
    rw [Nat.pow_succ] at h1
    omega
  · rw [heq]
    have := roundEven_mono (Nat.two_pow_pos (Nat.log2 m - f.frac)) h
    omega

/-- Rounding gives back a finite value exactly. -/
theorem roundMag_units (f : Fmt) {v : Nat} (h : f.mag v < f.inf) : f.roundMag (f.units v) 1 = f.mag v := by
  have hd := Nat.div_add_mod (f.mag v) (2 ^ f.frac)
  have hlt := Nat.mod_lt (f.mag v) (Nat.two_pow_pos f.frac)
  unfold Fmt.roundMag Fmt.units
  simp only [Nat.div_one, Nat.one_mul]
  generalize hm : f.mag v % 2 ^ f.frac = m at *
  by_cases he : f.mag v / 2 ^ f.frac = 0
  · rw [if_pos he]
    have hsh : Nat.log2 m - f.frac = 0 := by
      rcases Nat.eq_zero_or_pos m with h0 | h0
      · subst h0; simp
      · have : Nat.log2 m < f.frac := (Nat.log2_lt (by omega)).mpr hlt
        omega
    rw [hsh, Nat.pow_zero]
    have hr := roundEven_mul m (d := 1) (by omega)
    rw [Nat.mul_one] at hr
    rw [hr]
    rw [he] at hd
    omega
  · rw [if_neg he]
    generalize f.mag v / 2 ^ f.frac = e at *
    have hlog : Nat.log2 ((2 ^ f.frac + m) * 2 ^ (e - 1)) = f.frac + (e - 1) := by
      rw [Nat.log2_eq_iff (by positivity)]
      constructor
      · rw [Nat.pow_add]; exact Nat.mul_le_mul_right _ (by omega)
      · rw [show f.frac + (e - 1) + 1 = (f.frac + 1) + (e - 1) by omega, Nat.pow_add]
        exact Nat.mul_lt_mul_of_pos_right (by rw [Nat.pow_succ]; omega) (Nat.two_pow_pos _)
    rw [hlog, show f.frac + (e - 1) - f.frac = e - 1 by omega, roundEven_mul _ (Nat.two_pow_pos _)]
    have h3 : (e - 1) * 2 ^ f.frac + 2 ^ f.frac = 2 ^ f.frac * e := by
      rw [← Nat.succ_mul, show (e - 1).succ = e by omega, Nat.mul_comm]
    omega

end Sys2Proof
end

