-- ==== Sys2Proof/Laws/Map.lean ====
section
/-! SUPPORT. The ILC map (spec/10_state.md R28, spec/20_memory.md R90): every write keeps its canonical
form, and a lookup after a write finds what was written. -/

namespace Sys2Proof.Machine

/-- The canonical form, one cell at a time. -/
theorem mapWf_cons (c : MapCell) (r : List MapCell) :
    mapWf (c :: r) = true ↔
      c.entry.type ≠ .unknown ∧ (∀ d, d ∈ r → c.address < d.address) ∧ mapWf r = true := by
  induction r generalizing c with
  | nil => simp [mapWf]
  | cons d r ih =>
    rw [mapWf]
    simp only [Bool.and_eq_true, bne_iff_ne, ne_eq, decide_eq_true_eq, List.mem_cons, forall_eq_or_imp]
    constructor
    · rintro ⟨⟨h1, h2⟩, h3⟩
      refine ⟨h1, ⟨h2, fun e he => ?_⟩, h3⟩
      exact Nat.lt_trans h2 (((ih d).mp h3).2.1 e he)
    · rintro ⟨h1, ⟨h2, _⟩, h3⟩
      exact ⟨⟨h1, h2⟩, h3⟩

theorem mem_mapInsert {m : List MapCell} {a : Nat} {e : IlcEntry} {c : MapCell}
    (h : c ∈ mapInsert m a e) : c = ⟨a, e⟩ ∨ c ∈ m := by
  induction m with
  | nil => simpa [mapInsert] using h
  | cons d r ih =>
    simp only [mapInsert] at h
    split at h
    · simpa using h
    · split at h
      · rcases List.mem_cons.mp h with h | h
        · exact .inl h
        · exact .inr (List.mem_cons_of_mem _ h)
      · rcases List.mem_cons.mp h with h | h
        · exact .inr (h ▸ List.mem_cons_self)
        · rcases ih h with h | h
          · exact .inl h
          · exact .inr (List.mem_cons_of_mem _ h)

/-- A write keeps the canonical form. -/
theorem mapWf_mapInsert {m : List MapCell} (a : Nat) {e : IlcEntry} (hm : mapWf m = true)
    (he : e.type ≠ .unknown) : mapWf (mapInsert m a e) = true := by
  induction m with
  | nil => simpa [mapInsert, mapWf] using he
  | cons d r ih =>
    obtain ⟨h1, h2, h3⟩ := (mapWf_cons d r).mp hm
    simp only [mapInsert]
    split
    · rename_i hlt
      refine (mapWf_cons _ _).mpr ⟨he, fun c hc => ?_, hm⟩
      rcases List.mem_cons.mp hc with rfl | hc
      · exact hlt
      · exact Nat.lt_trans hlt (h2 c hc)
    · split
      · rename_i heq
        exact (mapWf_cons _ _).mpr ⟨he, fun c hc => heq ▸ h2 c hc, h3⟩
      · rename_i hge hne
        refine (mapWf_cons _ _).mpr ⟨h1, fun c hc => ?_, ih h3⟩
        rcases mem_mapInsert hc with rfl | hc
        · exact Nat.lt_of_le_of_ne (Nat.le_of_not_lt hge) hne
        · exact h2 c hc

theorem mapGet_of_lt {m : List MapCell} {b : Nat} (h : ∀ d, d ∈ m → b < d.address) :
    mapGet m b = unmapped := by
  induction m with
  | nil => rfl
  | cons d r ih =>
    have hd := h d List.mem_cons_self
    rw [mapGet, if_neg (by omega)]
    exact ih (fun e he => h e (List.mem_cons_of_mem _ he))

/-- A lookup after a write: the new entry at its address, the old ones elsewhere. -/
theorem mapGet_mapInsert {m : List MapCell} (a : Nat) (e : IlcEntry) (b : Nat) (hm : mapWf m = true) :
    mapGet (mapInsert m a e) b = if a = b then e else mapGet m b := by
  induction m with
  | nil => rfl
  | cons d r ih =>
    obtain ⟨_, h2, h3⟩ := (mapWf_cons d r).mp hm
    simp only [mapInsert]
    split
    · rfl
    · split
      · rename_i heq
        subst heq
        simp only [mapGet]
        split <;> rfl
      · rename_i hge hne
        simp only [mapGet]
        rw [ih h3]
        split
        · rename_i hd
          rw [if_neg (by omega)]
        · rfl

/-- A mapped address is a cell of the list. -/
theorem mapGet_mem {m : List MapCell} {a : Nat} (h : (mapGet m a).type ≠ .unknown) :
    (⟨a, mapGet m a⟩ : MapCell) ∈ m := by
  induction m with
  | nil => exact absurd rfl h
  | cons c r ih =>
    rw [mapGet] at h ⊢
    split
    · rename_i hc
      subst hc
      exact List.mem_cons_self
    · rename_i hc
      rw [if_neg hc] at h
      exact List.mem_cons_of_mem _ (ih h)

/-- The entry of a cell of a map in canonical form is what a lookup finds. -/
theorem mapGet_of_mem {m : List MapCell} (hm : mapWf m = true) {c : MapCell} (hc : c ∈ m) :
    mapGet m c.address = c.entry := by
  induction m with
  | nil => cases hc
  | cons d r ih =>
    obtain ⟨_, h2, h3⟩ := (mapWf_cons d r).mp hm
    rw [mapGet]
    rcases List.mem_cons.mp hc with rfl | hc
    · rw [if_pos rfl]
    · rw [if_neg (Nat.ne_of_lt (h2 c hc)), ih h3 hc]

/-- What placing a row can do (R210). -/
theorem placeRow_eq_some {m m' : PerSubnet (List MapCell)} {ids : List I32} {r : ActuatorRow}
    (h : placeRow m ids r = some m') :
    ∃ n, Subnet.ofByte r.subnet = some n ∧ r.address.toNat ≤ 254 ∧
      (mapGet (m.get n) r.address.toNat).type = .unknown ∧ r.entry.actuatorId ∉ ids ∧
      r.entry.type ≠ .unknown ∧ m' = m.set n (mapInsert (m.get n) r.address.toNat r.entry) := by
  unfold placeRow at h
  split at h
  · cases h
  · rename_i n hn
    split at h
    · cases h
    · rename_i hc
      rw [not_or, not_or, not_or] at hc
      obtain ⟨h1, h2, h3, h4⟩ := hc
      cases h
      refine ⟨n, hn, by omega, not_not.mp h2, by simpa using h3, h4, ?_⟩
      rw [mapSet, if_neg h4]

end Sys2Proof.Machine
end

