-- ==== Sys2Proof/Laws/Memory.lean ====
section
/-! SUPPORT. What the two access primitives of the buffers can do (spec/20_memory.md R84, R85), and that a
read after a write gives what was written. -/

namespace Sys2Proof.Machine

@[simp] theorem dataBytes_map (bs : List Byte) : dataBytes (bs.map Cell.data) = some bs := by
  induction bs with
  | nil => rfl
  | cons b r ih => simp [dataBytes, ih]

theorem dataBytes_eq_some {cs : List Cell} {bs : List Byte} (h : dataBytes cs = some bs) :
    cs = bs.map Cell.data := by
  induction cs generalizing bs with
  | nil => simp [dataBytes] at h; simp [← h]
  | cons c r ih =>
    cases c with
    | data b =>
      simp only [dataBytes] at h
      split at h
      · rename_i bs' hr
        cases h
        simp [ih hr]
      · cases h
    | _ => simp [dataBytes] at h

/-- What a read can answer (R84). -/
theorem memRead_eq_some {buf : List Cell} {pos n : Nat} {bs : List Byte} (h : memRead buf pos n = some bs) :
    pos + n ≤ buf.length ∧ (buf.drop pos).take n = bs.map Cell.data ∧ bs.length = n := by
  unfold memRead at h
  split at h
  · cases h
  · rename_i hl
    have hc := dataBytes_eq_some h
    refine ⟨by omega, hc, ?_⟩
    have := congrArg List.length hc
    simp at this
    omega

/-- A read of bytes that stand in the buffer (R84). -/
theorem memRead_of_append (pre : List Cell) (bs : List Byte) (post : List Cell) :
    memRead (pre ++ (bs.map Cell.data ++ post)) pre.length bs.length = some bs := by
  unfold memRead
  have h : ¬ (pre ++ (bs.map Cell.data ++ post)).length < pre.length + bs.length := by simp
  rw [if_neg h, List.drop_left, List.take_append_of_le_length (by simp)]
  have : (bs.map Cell.data).take bs.length = bs.map Cell.data := by
    apply List.take_of_length_le; simp
  rw [this, dataBytes_map]

/-- What a write can answer (R85). -/
theorem memWrite_eq_some {buf buf' : List Cell} {pos : Nat} {bs : List Byte}
    (h : memWrite buf pos bs = some buf') :
    pos + bs.length ≤ buf.length ∧
      buf' = buf.take pos ++ (bs.map Cell.data ++ buf.drop (pos + bs.length)) := by
  unfold memWrite at h
  split at h
  · cases h
  · cases h
    exact ⟨by omega, by simp⟩

theorem memWrite_eq_none_iff (buf : List Cell) (pos : Nat) (bs : List Byte) :
    memWrite buf pos bs = none ↔ buf.length < pos + bs.length := by
  unfold memWrite
  split <;> simp_all

/-- A write keeps the buffer's length (R85). -/
theorem memWrite_length {buf buf' : List Cell} {pos : Nat} {bs : List Byte}
    (h : memWrite buf pos bs = some buf') : buf'.length = buf.length := by
  obtain ⟨hl, rfl⟩ := memWrite_eq_some h
  simp
  omega

/-- A read after a write to the same place gives the bytes written (R84, R85). -/
theorem memRead_after_memWrite {buf buf' : List Cell} {pos : Nat} {bs : List Byte}
    (h : memWrite buf pos bs = some buf') : memRead buf' pos bs.length = some bs := by
  obtain ⟨hl, rfl⟩ := memWrite_eq_some h
  have hp : (buf.take pos).length = pos := by simp; omega
  have := memRead_of_append (buf.take pos) bs (buf.drop (pos + bs.length))
  rw [hp] at this
  exact this

/-- A write leaves every other cell alone (R85). -/
theorem memWrite_other {buf buf' : List Cell} {pos i : Nat} {bs : List Byte}
    (h : memWrite buf pos bs = some buf') (hi : i < pos ∨ pos + bs.length ≤ i) : buf'[i]? = buf[i]? := by
  obtain ⟨hl, rfl⟩ := memWrite_eq_some h
  rcases hi with hi | hi
  · rw [List.getElem?_append_left (by simp; omega), List.getElem?_take_of_lt hi]
  · rw [List.getElem?_append_right (by simp; omega), List.getElem?_append_right (by simp; omega),
      List.getElem?_drop]
    congr 1
    simp
    omega

end Sys2Proof.Machine
end

