-- ==== Sys2Proof/Laws/Ops.lean ====
section
/-! SUPPORT. For each shared operation, what it can do: cited instead of unfolding it. -/

namespace Sys2Proof.Machine

/-! ## The gate and the lookup -/

theorem whenReady_ready {s : State} (h : s.ready = true) (k : Host.Outcome State Fault Refusal) :
    whenReady s k = k := by rw [whenReady, if_pos h]

theorem whenReady_not_ready {s : State} (h : s.ready = false) (k : Host.Outcome State Fault Refusal) :
    whenReady s k = .next (s.respond .notConfigured .none) := by
  rw [whenReady, h]; rfl

theorem ready_iff (s : State) : s.ready = true ↔ s.cfgLoaded = true ∧ s.mapBuilt = true := by
  rw [State.ready, Bool.and_eq_true]

/-- What a lookup can answer (R90). -/
theorem lookup_cases (s : State) (sub a : Byte) :
    (Subnet.ofByte sub = none ∧ s.lookup sub a = .unknownSubnet) ∨
      ∃ n, Subnet.ofByte sub = some n ∧
        (((mapGet (s.frame.ilcMap.get n) a.toNat).type = .unknown ∧ s.lookup sub a = .unknownAddress) ∨
          ((mapGet (s.frame.ilcMap.get n) a.toNat).type ≠ .unknown ∧
            s.lookup sub a = .found (mapGet (s.frame.ilcMap.get n) a.toNat))) := by
  unfold State.lookup
  cases h : Subnet.ofByte sub with
  | none => exact .inl ⟨rfl, rfl⟩
  | some n =>
    refine .inr ⟨n, rfl, ?_⟩
    by_cases ht : (mapGet (s.frame.ilcMap.get n) a.toNat).type = .unknown
    · exact .inl ⟨ht, by simp [ht]⟩
    · exact .inr ⟨ht, by simp [ht]⟩

/-! ## The latch -/

/-- `notify` either latches the fault, the latch being free, the fault enabled and its flag true, or
leaves the state as it is (R312). -/
theorem notify_cases (s : State) (c : FaultCode) (b : Bool) (r : List Byte) :
    (s.cfg.safety.faultEnabled.contains c = true ∧ b = true ∧ s.safety.err.code = .noFault ∧
        s.notify c b r =
          { s with safety := { s.safety with err := ⟨c, r.take s.cfg.safety.reportMax⟩ } }) ∨
      (¬ (s.cfg.safety.faultEnabled.contains c = true ∧ b = true ∧ s.safety.err.code = .noFault) ∧
        s.notify c b r = s) := by
  unfold State.notify
  split
  · rename_i h
    simp only [Bool.and_eq_true, beq_iff_eq] at h
    exact .inl ⟨h.1.1, h.1.2, h.2, rfl⟩
  · rename_i h
    simp only [Bool.and_eq_true, beq_iff_eq] at h
    exact .inr ⟨fun hc => h ⟨⟨hc.1, hc.2.1⟩, hc.2.2⟩, rfl⟩

/-- `notify` writes no register but `ERR` (R388). -/
theorem notify_safety (s : State) (c : FaultCode) (b : Bool) (r : List Byte) :
    (s.notify c b r).safety = { s.safety with err := (s.notify c b r).safety.err } := by
  rcases notify_cases s c b r with ⟨_, _, _, h⟩ | ⟨_, h⟩ <;> rw [h]

/-- A latched fault is never overwritten (R312). -/
theorem notify_latched {s : State} (h : s.safety.err.code ≠ .noFault) (c : FaultCode) (b : Bool)
    (r : List Byte) : s.notify c b r = s := by
  rcases notify_cases s c b r with ⟨_, _, hn, _⟩ | ⟨_, h'⟩
  · exact absurd hn h
  · exact h'

@[simp] theorem notify_false (s : State) (c : FaultCode) (r : List Byte) : s.notify c false r = s := by
  rcases notify_cases s c false r with ⟨_, hb, _, _⟩ | ⟨_, h⟩
  · cases hb
  · exact h

/-- The codes an operand of `NOTIFY` may have (R313). -/
theorem notifyCode_ne_noFault {b : Byte} {c : FaultCode} (h : notifyCode b = some c) : c ≠ .noFault := by
  unfold notifyCode at h
  split at h
  · cases h
  · rename_i hb
    intro hc
    subst hc
    unfold FaultCode.ofCode at h
    split at h <;> simp_all

/-! ## Warnings -/

/-- After a warning exactly the one cause is set, and the roll-up is true (R35, R40). -/
theorem raise_causes (w : IlcWarn) (c : Cause) (a : I32) (ts : U64) :
    (w.raise c a ts).causes.countP id = 1 ∧ (w.raise c a ts).anyWarning = true ∧
      (w.raise c a ts).causes.any id = true := by
  cases c <;> simp [IlcWarn.raise, IlcWarn.rollUp, IlcWarn.setCause, IlcWarn.clearCauses, IlcWarn.causes]

/-! ## Windows -/

/-- A window keeps its length (R314). -/
theorem winPush_length {w : List Bool} (h : 1 ≤ w.length) (b : Bool) : (winPush w b).length = w.length := by
  simp [winPush]
  omega

theorem winClear_length (w : List Bool) : (winClear w).length = w.length := by simp [winClear]

/-! ## Components -/

/-- What `FC_DISABLE` can do to a component (R263, R265). -/
theorem disable_cases (v : Component) :
    ((v.state = .initialising ∨ v.state = .enabled) ∧
        v.disable = { v with target := v.target.map (fun _ => 0), state := .disabling }) ∨
      ((v.state = .disabling ∨ v.state = .disabled) ∧ v.disable = v) := by
  unfold Component.disable
  split <;> simp_all

@[simp] theorem disable_current (v : Component) : v.disable.current = v.current := by
  rcases disable_cases v with ⟨_, h⟩ | ⟨_, h⟩ <;> rw [h]

@[simp] theorem disable_offset (v : Component) : v.disable.offset = v.offset := by
  rcases disable_cases v with ⟨_, h⟩ | ⟨_, h⟩ <;> rw [h]

@[simp] theorem disable_preclipped (v : Component) : v.disable.preclipped = v.preclipped := by
  rcases disable_cases v with ⟨_, h⟩ | ⟨_, h⟩ <;> rw [h]

@[simp] theorem disable_applied (v : Component) : v.disable.applied = v.applied := by
  rcases disable_cases v with ⟨_, h⟩ | ⟨_, h⟩ <;> rw [h]

@[simp] theorem disable_clipWarn (v : Component) : v.disable.clipWarn = v.clipWarn := by
  rcases disable_cases v with ⟨_, h⟩ | ⟨_, h⟩ <;> rw [h]

@[simp] theorem disable_anyClip (v : Component) : v.disable.anyClip = v.anyClip := by
  rcases disable_cases v with ⟨_, h⟩ | ⟨_, h⟩ <;> rw [h]

/-- Several components disabled or enabled write nothing but the components. -/
theorem disableComps_eq (s : State) (cs : List Comp) :
    s.disableComps cs = { s with force := { s.force with fc := (s.disableComps cs).force.fc } } := by
  unfold State.disableComps
  induction cs generalizing s with
  | nil => rfl
  | cons c r ih =>
    rw [List.foldl_cons, ih (s.disableComp c)]
    rfl

theorem enableComps_eq (s : State) (cs : List Comp) :
    s.enableComps cs = { s with force := { s.force with fc := (s.enableComps cs).force.fc } } := by
  unfold State.enableComps
  induction cs generalizing s with
  | nil => rfl
  | cons c r ih =>
    rw [List.foldl_cons, ih (s.enableComp c)]
    rfl

/-- What an update of one component can do (R274): nothing to a `Disabled` one; the end of its ramp; or a
walk, a clip, an event and a `notify`. -/
theorem updateComp_cases (s : State) (c : Comp) :
    ((s.force.fc.get c).state = .disabled ∧ s.updateComp c = s) ∨
      ((s.force.fc.get c).state = .disabling ∧
        ((s.force.fc.get c).walk (s.cfg.force.maxRate.get c)).nearZero s.cfg.force.nearZeroEps = true ∧
        s.updateComp c =
          s.setComp c ((s.force.fc.get c).walk (s.cfg.force.maxRate.get c)).finishRamp) ∨
      ((s.force.fc.get c).state ≠ .disabled ∧
        ¬ ((s.force.fc.get c).state = .disabling ∧
          ((s.force.fc.get c).walk (s.cfg.force.maxRate.get c)).nearZero s.cfg.force.nearZeroEps = true) ∧
        s.updateComp c = s.postUpdate c ((s.force.fc.get c).walk (s.cfg.force.maxRate.get c))) := by
  unfold State.updateComp
  by_cases hd : (s.force.fc.get c).state = .disabled
  · exact .inl ⟨hd, by simp [hd]⟩
  · by_cases hz : (s.force.fc.get c).state = .disabling ∧
        ((s.force.fc.get c).walk (s.cfg.force.maxRate.get c)).nearZero s.cfg.force.nearZeroEps = true
    · exact .inr (.inl ⟨hz.1, hz.2, by rw [if_neg hd]; exact if_pos hz⟩)
    · exact .inr (.inr ⟨hd, hz, by rw [if_neg hd]; exact if_neg hz⟩)

/-! ## Frames -/

/-- A frame whose CRC was right ends in one of these (R212): a warning and no write, an exception response
(R240), or a commit (R215). -/
theorem frameBody_cases (s : State) (sub a g : Byte) (p : List Byte) (ts : U64) :
    (∃ c id, s.frameBody sub a g p ts = (s.emit c id ts, 0)) ∨
      (∃ e, s.lookup sub a = .found e ∧ s.frameBody sub a g p ts = (s.exceptionFrame e p ts, 0)) ∨
      ∃ e code ws, s.lookup sub a = .found e ∧ g.toNat < 128 ∧ recognised s.cfg e.type g = some code ∧
        decodePayload s.cfg.tables e.type code (axisOf a) p = some ws ∧
        s.frameBody sub a g p ts = (s.commit sub a g e ws ts, 1) := by
  unfold State.frameBody
  cases hl : s.lookup sub a with
  | unknownSubnet => exact .inl ⟨_, _, rfl⟩
  | unknownAddress => exact .inl ⟨_, _, rfl⟩
  | found e =>
    simp only
    split
    · exact .inr (.inl ⟨e, rfl, rfl⟩)
    · rename_i hg
      unfold State.functionFrame
      cases hr : recognised s.cfg e.type g with
      | none => exact .inl ⟨_, _, rfl⟩
      | some code =>
        simp only
        cases hd : decodePayload s.cfg.tables e.type code (axisOf a) p with
        | none => exact .inl ⟨_, _, rfl⟩
        | some ws => exact .inr (.inr ⟨e, code, ws, rfl, by omega, hr, hd, rfl⟩)

/-- An exception response emits one warning and may lower a counter (R240). -/
theorem exceptionFrame_cases (s : State) (e : IlcEntry) (p : List Byte) (ts : U64) :
    (∃ c, s.exceptionFrame e p ts = s.emit c e.actuatorId ts) ∨
      ∃ c, s.exceptionFrame e p ts = (s.emit c e.actuatorId ts).bumpExpect e (-1) := by
  unfold State.exceptionFrame
  split
  · simp only
    split
    · exact .inr ⟨_, rfl⟩
    · exact .inl ⟨_, rfl⟩
  · exact .inl ⟨_, rfl⟩

end Sys2Proof.Machine
end

