-- ==== Sys2Proof/Laws/PerInstr.lean ====
section
/-! SUPPORT. One lemma per instruction: the byte that stands for it in spec/opcode_table.json (an
operation code of R140, a function byte of R126 or R127) is the byte its encoding carries. -/

namespace Sys2Proof.Laws.TableByte

/-- The byte of an encoding that the opcode table lists: a command's operation code, a response body's
function byte. -/
def leading : Input → Option Byte
  | .command (b :: _) => some b
  | .response _ _ (_ :: g :: _) => some g
  | _ => none

/-- The byte the table gives an instruction; an exception response carries its request's function. -/
def tableByte : Instr → Byte
  | .getU8 _ _ => 0x00
  | .getI8 _ _ => 0x01
  | .getU16 _ _ => 0x02
  | .getI16 _ _ => 0x03
  | .getU32 _ _ => 0x04
  | .getI32 _ _ => 0x05
  | .getU64 _ _ => 0x06
  | .getI64 _ _ => 0x07
  | .getF32 _ _ => 0x08
  | .getF64 _ _ => 0x09
  | .getStr _ _ => 0x0A
  | .setU8 _ _ _ => 0x10
  | .setI8 _ _ _ => 0x11
  | .setU16 _ _ _ => 0x12
  | .setI16 _ _ _ => 0x13
  | .setU32 _ _ _ => 0x14
  | .setI32 _ _ _ => 0x15
  | .setU64 _ _ _ => 0x16
  | .setI64 _ _ _ => 0x17
  | .setF32 _ _ _ => 0x18
  | .setF64 _ _ _ => 0x19
  | .setStr _ _ _ => 0x1A
  | .crc16 _ => 0x1F
  | .startSubnet _ => 0x20
  | .append _ _ _ _ => 0x21
  | .endSubnet _ => 0x22
  | .send _ => 0x24
  | .waitIrq _ _ _ => 0x25
  | .mapBuild => 0x30
  | .parse _ _ => 0x31
  | .reconcile _ => 0x32
  | .validateCrc _ _ => 0x33
  | .fcEnable _ => 0x40
  | .fcDisable _ => 0x41
  | .fcApply _ _ _ _ => 0x42
  | .fcZero _ => 0x43
  | .fcUpdate _ => 0x44
  | .updateApplied => 0x45
  | .processApplied => 0x46
  | .notify _ _ _ => 0x50
  | .notifyIlcTimeout => 0x51
  | .notifyFaFollowingError _ _ _ => 0x52
  | .notifyHpMeasuredForce _ _ _ => 0x53
  | .notifyHpAirPressure _ _ _ => 0x54
  | .checkSafety _ => 0x58
  | .clearError => 0x59
  | .clearErrorCode => 0x5A
  | .settingsLoad _ => 0x5E
  | .raiseStart _ _ => 0x60
  | .raiseRunloop _ => 0x61
  | .raiseCheckComplete _ => 0x62
  | .raiseComplete => 0x63
  | .checkTimeout _ => 0x64
  | .timeout => 0x65
  | .pause _ => 0x66
  | .resume _ => 0x67
  | .rlReset => 0x68
  | .lowerStart _ => 0x69
  | .lowerRunloop => 0x6A
  | .lowerCheckComplete => 0x6B
  | .lowerComplete => 0x6C
  | .spInc => 0x70
  | .spDec => 0x71
  | .spZero => 0x72
  | .spFill => 0x73
  | .spFilled => 0x74
  | .spZeroed => 0x75
  | .hpcSample _ _ => 0x78
  | .hpcReset _ => 0x79
  | .hpcStatus _ => 0x7A
  | .faFeInTol => 0x7C
  | .hpForcesInTol _ => 0x7D
  | .reset => 0x80
  | .pullTelemetry _ => 0x81
  | .reportServerID _ _ _ _ => 0x11
  | .reportServerStatus _ _ _ _ => 0x12
  | .changeMode _ _ _ _ => 0x41
  | .stepMotor _ _ _ _ => 0x42
  | .electromechanicalForceAndStatus _ _ _ _ => 0x43
  | .setBoostValveDCAGains _ _ _ _ => 0x49
  | .readBoostValveDCAGains _ _ _ _ => 0x4A
  | .forceDemand _ _ _ _ => 0x4B
  | .pneumaticForceStatus _ _ _ _ => 0x4C
  | .setADCScanRate _ _ _ _ => 0x50
  | .setADCOffsetSensitivity _ _ _ _ => 0x51
  | .eraseApplication _ _ _ _ => 0x65
  | .writeApplication _ _ _ _ => 0x66
  | .verifyApplication _ _ _ _ => 0x67
  | .resetApplication _ _ _ _ => 0x6B
  | .readCalibration _ _ _ _ => 0x6E
  | .readDCAPressure _ _ _ _ => 0x77
  | .reportDCAID _ _ _ _ => 0x78
  | .reportDCAStatus _ _ _ _ => 0x79
  | .reportLVDT _ _ _ _ => 0x7A
  | .exceptionResponse _ _ f _ _ => 0x80 ||| BitVec.zeroExtend 8 f

/-- The encoding of an instruction carries the byte the table gives it. -/
def Statement (i : Instr) : Prop := leading (encode i) = some (tableByte i)

theorem getU8 (buf : List Cell) (cur : Nat) : Statement (.getU8 buf cur) := rfl
theorem getI8 (buf : List Cell) (cur : Nat) : Statement (.getI8 buf cur) := rfl
theorem getU16 (buf : List Cell) (cur : Nat) : Statement (.getU16 buf cur) := rfl
theorem getI16 (buf : List Cell) (cur : Nat) : Statement (.getI16 buf cur) := rfl
theorem getU32 (buf : List Cell) (cur : Nat) : Statement (.getU32 buf cur) := rfl
theorem getI32 (buf : List Cell) (cur : Nat) : Statement (.getI32 buf cur) := rfl
theorem getU64 (buf : List Cell) (cur : Nat) : Statement (.getU64 buf cur) := rfl
theorem getI64 (buf : List Cell) (cur : Nat) : Statement (.getI64 buf cur) := rfl
theorem getF32 (buf : List Cell) (cur : Nat) : Statement (.getF32 buf cur) := rfl
theorem getF64 (buf : List Cell) (cur : Nat) : Statement (.getF64 buf cur) := rfl
theorem getStr (buf : List Cell) (cur : Nat) : Statement (.getStr buf cur) := rfl
theorem setU8 (buf : List Cell) (cur : Nat) (value : BitVec 8) : Statement (.setU8 buf cur value) := rfl
theorem setI8 (buf : List Cell) (cur : Nat) (value : Int) : Statement (.setI8 buf cur value) := rfl
theorem setU16 (buf : List Cell) (cur : Nat) (value : BitVec 16) : Statement (.setU16 buf cur value) := rfl
theorem setI16 (buf : List Cell) (cur : Nat) (value : Int) : Statement (.setI16 buf cur value) := rfl
theorem setU32 (buf : List Cell) (cur : Nat) (value : BitVec 32) : Statement (.setU32 buf cur value) := rfl
theorem setI32 (buf : List Cell) (cur : Nat) (value : Int) : Statement (.setI32 buf cur value) := rfl
theorem setU64 (buf : List Cell) (cur : Nat) (value : BitVec 64) : Statement (.setU64 buf cur value) := rfl
theorem setI64 (buf : List Cell) (cur : Nat) (value : Int) : Statement (.setI64 buf cur value) := rfl
theorem setF32 (buf : List Cell) (cur : Nat) (value : F32) : Statement (.setF32 buf cur value) := rfl
theorem setF64 (buf : List Cell) (cur : Nat) (value : F64) : Statement (.setF64 buf cur value) := rfl
theorem setStr (buf : List Cell) (cur : Nat) (value : List Byte) : Statement (.setStr buf cur value) := rfl
theorem crc16 (bs : List Byte) : Statement (.crc16 bs) := rfl
theorem startSubnet (s : Byte) : Statement (.startSubnet s) := rfl
theorem append (s : Byte) (address : Byte) (f : Byte) (args : AppendArgs) :
    Statement (.append s address f args) := rfl
theorem endSubnet (s : Byte) : Statement (.endSubnet s) := rfl
theorem send (s : Byte) : Statement (.send s) := rfl
theorem waitIrq (s : Byte) (irq : Bool) (rx : List Word16) : Statement (.waitIrq s irq rx) := rfl
theorem mapBuild : Statement (.mapBuild) := rfl
theorem parse (s : Byte) (b : Option Byte) : Statement (.parse s b) := rfl
theorem reconcile (ts : U64) : Statement (.reconcile ts) := rfl
theorem validateCrc (b : Byte) (p : Nat) : Statement (.validateCrc b p) := rfl
theorem fcEnable (c : Byte) : Statement (.fcEnable c) := rfl
theorem fcDisable (c : Byte) : Statement (.fcDisable c) := rfl
theorem fcApply (c : Byte) (tX tY tZ : List F32) : Statement (.fcApply c tX tY tZ) := rfl
theorem fcZero (c : Byte) : Statement (.fcZero c) := rfl
theorem fcUpdate (c : Byte) : Statement (.fcUpdate c) := rfl
theorem updateApplied : Statement (.updateApplied) := rfl
theorem processApplied : Statement (.processApplied) := rfl
theorem notify (code : Byte) (flag : Bool) (report : List Byte) :
    Statement (.notify code flag report) := rfl
theorem notifyIlcTimeout : Statement (.notifyIlcTimeout) := rfl
theorem notifyFaFollowingError (i : Nat) (sample : Bool) (report : List Byte) :
    Statement (.notifyFaFollowingError i sample report) := rfl
theorem notifyHpMeasuredForce (h : Byte) (sample : Bool) (report : List Byte) :
    Statement (.notifyHpMeasuredForce h sample report) := rfl
theorem notifyHpAirPressure (h : Byte) (sample : Bool) (report : List Byte) :
    Statement (.notifyHpAirPressure h sample report) := rfl
theorem checkSafety (preferred : Byte) : Statement (.checkSafety preferred) := rfl
theorem clearError : Statement (.clearError) := rfl
theorem clearErrorCode : Statement (.clearErrorCode) := rfl
theorem settingsLoad (c : Cfg) : Statement (.settingsLoad c) := rfl
theorem raiseStart (bypass : Bool) (now : F64) : Statement (.raiseStart bypass now) := rfl
theorem raiseRunloop (waitAirPressure : Bool) : Statement (.raiseRunloop waitAirPressure) := rfl
theorem raiseCheckComplete (motionComplete : Bool) : Statement (.raiseCheckComplete motionComplete) := rfl
theorem raiseComplete : Statement (.raiseComplete) := rfl
theorem checkTimeout (now : F64) : Statement (.checkTimeout now) := rfl
theorem timeout : Statement (.timeout) := rfl
theorem pause (now : F64) : Statement (.pause now) := rfl
theorem resume (now : F64) : Statement (.resume now) := rfl
theorem rlReset : Statement (.rlReset) := rfl
theorem lowerStart (now : F64) : Statement (.lowerStart now) := rfl
theorem lowerRunloop : Statement (.lowerRunloop) := rfl
theorem lowerCheckComplete : Statement (.lowerCheckComplete) := rfl
theorem lowerComplete : Statement (.lowerComplete) := rfl
theorem spInc : Statement (.spInc) := rfl
theorem spDec : Statement (.spDec) := rfl
theorem spZero : Statement (.spZero) := rfl
theorem spFill : Statement (.spFill) := rfl
theorem spFilled : Statement (.spFilled) := rfl
theorem spZeroed : Statement (.spZeroed) := rfl
theorem hpcSample (h : Byte) (f : F32) : Statement (.hpcSample h f) := rfl
theorem hpcReset (h : Byte) : Statement (.hpcReset h) := rfl
theorem hpcStatus (h : Byte) : Statement (.hpcStatus h) := rfl
theorem faFeInTol : Statement (.faFeInTol) := rfl
theorem hpForcesInTol (raise : Bool) : Statement (.hpForcesInTol raise) := rfl
theorem reset : Statement (.reset) := rfl
theorem pullTelemetry (sample : F64) : Statement (.pullTelemetry sample) := rfl
theorem reportServerID (s address : Byte) (payload : List Byte) (ts : U64) :
    Statement (.reportServerID s address payload ts) := rfl
theorem reportServerStatus (s address : Byte) (payload : List Byte) (ts : U64) :
    Statement (.reportServerStatus s address payload ts) := rfl
theorem changeMode (s address : Byte) (payload : List Byte) (ts : U64) :
    Statement (.changeMode s address payload ts) := rfl
theorem stepMotor (s address : Byte) (payload : List Byte) (ts : U64) :
    Statement (.stepMotor s address payload ts) := rfl
theorem electromechanicalForceAndStatus (s address : Byte) (payload : List Byte) (ts : U64) :
    Statement (.electromechanicalForceAndStatus s address payload ts) := rfl
theorem setBoostValveDCAGains (s address : Byte) (payload : List Byte) (ts : U64) :
    Statement (.setBoostValveDCAGains s address payload ts) := rfl
theorem readBoostValveDCAGains (s address : Byte) (payload : List Byte) (ts : U64) :
    Statement (.readBoostValveDCAGains s address payload ts) := rfl
theorem forceDemand (s address : Byte) (payload : List Byte) (ts : U64) :
    Statement (.forceDemand s address payload ts) := rfl
theorem pneumaticForceStatus (s address : Byte) (payload : List Byte) (ts : U64) :
    Statement (.pneumaticForceStatus s address payload ts) := rfl
theorem setADCScanRate (s address : Byte) (payload : List Byte) (ts : U64) :
    Statement (.setADCScanRate s address payload ts) := rfl
theorem setADCOffsetSensitivity (s address : Byte) (payload : List Byte) (ts : U64) :
    Statement (.setADCOffsetSensitivity s address payload ts) := rfl
theorem eraseApplication (s address : Byte) (payload : List Byte) (ts : U64) :
    Statement (.eraseApplication s address payload ts) := rfl
theorem writeApplication (s address : Byte) (payload : List Byte) (ts : U64) :
    Statement (.writeApplication s address payload ts) := rfl
theorem verifyApplication (s address : Byte) (payload : List Byte) (ts : U64) :
    Statement (.verifyApplication s address payload ts) := rfl
theorem resetApplication (s address : Byte) (payload : List Byte) (ts : U64) :
    Statement (.resetApplication s address payload ts) := rfl
theorem readCalibration (s address : Byte) (payload : List Byte) (ts : U64) :
    Statement (.readCalibration s address payload ts) := rfl
theorem readDCAPressure (s address : Byte) (payload : List Byte) (ts : U64) :
    Statement (.readDCAPressure s address payload ts) := rfl
theorem reportDCAID (s address : Byte) (payload : List Byte) (ts : U64) :
    Statement (.reportDCAID s address payload ts) := rfl
theorem reportDCAStatus (s address : Byte) (payload : List Byte) (ts : U64) :
    Statement (.reportDCAStatus s address payload ts) := rfl
theorem reportLVDT (s address : Byte) (payload : List Byte) (ts : U64) :
    Statement (.reportLVDT s address payload ts) := rfl
theorem exceptionResponse (s address : Byte) (f : BitVec 7) (payload : List Byte) (ts : U64) :
    Statement (.exceptionResponse s address f payload ts) := rfl

end Sys2Proof.Laws.TableByte
end

