-- ==== Sys2Proof/Laws/State.lean ====
section
/-! SUPPORT. What each named update of the state leaves in each of its fields: one lemma per field per
update, so that no proof unfolds a record update. -/

namespace Sys2Proof.Machine

/-! ### `respond` -/

@[simp] theorem State.respond_frame (s : State) (st : Status) (d : RspData) :
    (s.respond st d).frame = s.frame := rfl
@[simp] theorem State.respond_force (s : State) (st : Status) (d : RspData) :
    (s.respond st d).force = s.force := rfl
@[simp] theorem State.respond_safety (s : State) (st : Status) (d : RspData) :
    (s.respond st d).safety = s.safety := rfl
@[simp] theorem State.respond_raise (s : State) (st : Status) (d : RspData) :
    (s.respond st d).raise = s.raise := rfl
@[simp] theorem State.respond_elev (s : State) (st : Status) (d : RspData) :
    (s.respond st d).elev = s.elev := rfl
@[simp] theorem State.respond_elevValid (s : State) (st : Status) (d : RspData) :
    (s.respond st d).elevValid = s.elevValid := rfl
@[simp] theorem State.respond_cfg (s : State) (st : Status) (d : RspData) :
    (s.respond st d).cfg = s.cfg := rfl
@[simp] theorem State.respond_cfgLoaded (s : State) (st : Status) (d : RspData) :
    (s.respond st d).cfgLoaded = s.cfgLoaded := rfl
@[simp] theorem State.respond_mapBuilt (s : State) (st : Status) (d : RspData) :
    (s.respond st d).mapBuilt = s.mapBuilt := rfl
@[simp] theorem State.respond_log (s : State) (st : Status) (d : RspData) :
    (s.respond st d).log = s.log := rfl
@[simp] theorem State.respond_rsp (s : State) (st : Status) (d : RspData) :
    (s.respond st d).rsp = some ⟨st, d⟩ := rfl
@[simp] theorem State.respond_txOut (s : State) (st : Status) (d : RspData) :
    (s.respond st d).txOut = s.txOut := rfl
@[simp] theorem State.respond_inputs (s : State) (st : Status) (d : RspData) :
    (s.respond st d).inputs = s.inputs := rfl

/-! ### `logEvent` -/

@[simp] theorem State.logEvent_frame (s : State) (e : Event) : (s.logEvent e).frame = s.frame := rfl
@[simp] theorem State.logEvent_force (s : State) (e : Event) : (s.logEvent e).force = s.force := rfl
@[simp] theorem State.logEvent_safety (s : State) (e : Event) : (s.logEvent e).safety = s.safety := rfl
@[simp] theorem State.logEvent_raise (s : State) (e : Event) : (s.logEvent e).raise = s.raise := rfl
@[simp] theorem State.logEvent_elev (s : State) (e : Event) : (s.logEvent e).elev = s.elev := rfl
@[simp] theorem State.logEvent_elevValid (s : State) (e : Event) :
    (s.logEvent e).elevValid = s.elevValid := rfl
@[simp] theorem State.logEvent_cfg (s : State) (e : Event) : (s.logEvent e).cfg = s.cfg := rfl
@[simp] theorem State.logEvent_cfgLoaded (s : State) (e : Event) :
    (s.logEvent e).cfgLoaded = s.cfgLoaded := rfl
@[simp] theorem State.logEvent_mapBuilt (s : State) (e : Event) :
    (s.logEvent e).mapBuilt = s.mapBuilt := rfl
@[simp] theorem State.logEvent_log (s : State) (e : Event) : (s.logEvent e).log = s.log ++ [e] := rfl
@[simp] theorem State.logEvent_rsp (s : State) (e : Event) : (s.logEvent e).rsp = s.rsp := rfl
@[simp] theorem State.logEvent_txOut (s : State) (e : Event) : (s.logEvent e).txOut = s.txOut := rfl
@[simp] theorem State.logEvent_inputs (s : State) (e : Event) : (s.logEvent e).inputs = s.inputs := rfl

/-! ### `emit` -/

@[simp] theorem State.emit_frame (s : State) (c : Cause) (a : I32) (ts : U64) :
    (s.emit c a ts).frame = { s.frame with ilcWarn := s.frame.ilcWarn.raise c a ts } := rfl
@[simp] theorem State.emit_force (s : State) (c : Cause) (a : I32) (ts : U64) :
    (s.emit c a ts).force = s.force := rfl
@[simp] theorem State.emit_safety (s : State) (c : Cause) (a : I32) (ts : U64) :
    (s.emit c a ts).safety = s.safety := rfl
@[simp] theorem State.emit_raise (s : State) (c : Cause) (a : I32) (ts : U64) :
    (s.emit c a ts).raise = s.raise := rfl
@[simp] theorem State.emit_elev (s : State) (c : Cause) (a : I32) (ts : U64) :
    (s.emit c a ts).elev = s.elev := rfl
@[simp] theorem State.emit_elevValid (s : State) (c : Cause) (a : I32) (ts : U64) :
    (s.emit c a ts).elevValid = s.elevValid := rfl
@[simp] theorem State.emit_cfg (s : State) (c : Cause) (a : I32) (ts : U64) :
    (s.emit c a ts).cfg = s.cfg := rfl
@[simp] theorem State.emit_cfgLoaded (s : State) (c : Cause) (a : I32) (ts : U64) :
    (s.emit c a ts).cfgLoaded = s.cfgLoaded := rfl
@[simp] theorem State.emit_mapBuilt (s : State) (c : Cause) (a : I32) (ts : U64) :
    (s.emit c a ts).mapBuilt = s.mapBuilt := rfl
@[simp] theorem State.emit_log (s : State) (c : Cause) (a : I32) (ts : U64) :
    (s.emit c a ts).log = s.log ++ [.warning (s.frame.ilcWarn.raise c a ts)] := rfl
@[simp] theorem State.emit_rsp (s : State) (c : Cause) (a : I32) (ts : U64) :
    (s.emit c a ts).rsp = s.rsp := rfl
@[simp] theorem State.emit_txOut (s : State) (c : Cause) (a : I32) (ts : U64) :
    (s.emit c a ts).txOut = s.txOut := rfl
@[simp] theorem State.emit_inputs (s : State) (c : Cause) (a : I32) (ts : U64) :
    (s.emit c a ts).inputs = s.inputs := rfl

/-! ### `bumpExpect` -/

@[simp] theorem State.bumpExpect_frame (s : State) (e : IlcEntry) (d : I32) :
    (s.bumpExpect e d).frame = s.frame.modifyExpect e.type e.dataIndex (fun v => v + d) := rfl
@[simp] theorem State.bumpExpect_force (s : State) (e : IlcEntry) (d : I32) :
    (s.bumpExpect e d).force = s.force := rfl
@[simp] theorem State.bumpExpect_safety (s : State) (e : IlcEntry) (d : I32) :
    (s.bumpExpect e d).safety = s.safety := rfl
@[simp] theorem State.bumpExpect_raise (s : State) (e : IlcEntry) (d : I32) :
    (s.bumpExpect e d).raise = s.raise := rfl
@[simp] theorem State.bumpExpect_elev (s : State) (e : IlcEntry) (d : I32) :
    (s.bumpExpect e d).elev = s.elev := rfl
@[simp] theorem State.bumpExpect_elevValid (s : State) (e : IlcEntry) (d : I32) :
    (s.bumpExpect e d).elevValid = s.elevValid := rfl
@[simp] theorem State.bumpExpect_cfg (s : State) (e : IlcEntry) (d : I32) :
    (s.bumpExpect e d).cfg = s.cfg := rfl
@[simp] theorem State.bumpExpect_cfgLoaded (s : State) (e : IlcEntry) (d : I32) :
    (s.bumpExpect e d).cfgLoaded = s.cfgLoaded := rfl
@[simp] theorem State.bumpExpect_mapBuilt (s : State) (e : IlcEntry) (d : I32) :
    (s.bumpExpect e d).mapBuilt = s.mapBuilt := rfl
@[simp] theorem State.bumpExpect_log (s : State) (e : IlcEntry) (d : I32) :
    (s.bumpExpect e d).log = s.log := rfl
@[simp] theorem State.bumpExpect_rsp (s : State) (e : IlcEntry) (d : I32) :
    (s.bumpExpect e d).rsp = s.rsp := rfl
@[simp] theorem State.bumpExpect_txOut (s : State) (e : IlcEntry) (d : I32) :
    (s.bumpExpect e d).txOut = s.txOut := rfl
@[simp] theorem State.bumpExpect_inputs (s : State) (e : IlcEntry) (d : I32) :
    (s.bumpExpect e d).inputs = s.inputs := rfl

/-! ### `setTx` -/

@[simp] theorem State.setTx_frame (s : State) (n : Subnet) (b : TxBatch) :
    (s.setTx n b).frame = { s.frame with tx := s.frame.tx.set n b } := rfl
@[simp] theorem State.setTx_force (s : State) (n : Subnet) (b : TxBatch) :
    (s.setTx n b).force = s.force := rfl
@[simp] theorem State.setTx_safety (s : State) (n : Subnet) (b : TxBatch) :
    (s.setTx n b).safety = s.safety := rfl
@[simp] theorem State.setTx_raise (s : State) (n : Subnet) (b : TxBatch) :
    (s.setTx n b).raise = s.raise := rfl
@[simp] theorem State.setTx_elev (s : State) (n : Subnet) (b : TxBatch) :
    (s.setTx n b).elev = s.elev := rfl
@[simp] theorem State.setTx_elevValid (s : State) (n : Subnet) (b : TxBatch) :
    (s.setTx n b).elevValid = s.elevValid := rfl
@[simp] theorem State.setTx_cfg (s : State) (n : Subnet) (b : TxBatch) :
    (s.setTx n b).cfg = s.cfg := rfl
@[simp] theorem State.setTx_cfgLoaded (s : State) (n : Subnet) (b : TxBatch) :
    (s.setTx n b).cfgLoaded = s.cfgLoaded := rfl
@[simp] theorem State.setTx_mapBuilt (s : State) (n : Subnet) (b : TxBatch) :
    (s.setTx n b).mapBuilt = s.mapBuilt := rfl
@[simp] theorem State.setTx_log (s : State) (n : Subnet) (b : TxBatch) :
    (s.setTx n b).log = s.log := rfl
@[simp] theorem State.setTx_rsp (s : State) (n : Subnet) (b : TxBatch) :
    (s.setTx n b).rsp = s.rsp := rfl
@[simp] theorem State.setTx_txOut (s : State) (n : Subnet) (b : TxBatch) :
    (s.setTx n b).txOut = s.txOut := rfl
@[simp] theorem State.setTx_inputs (s : State) (n : Subnet) (b : TxBatch) :
    (s.setTx n b).inputs = s.inputs := rfl

/-! ### `setRx` -/

@[simp] theorem State.setRx_frame (s : State) (n : Subnet) (w : List Word16) :
    (s.setRx n w).frame = { s.frame with rx := s.frame.rx.set n w } := rfl
@[simp] theorem State.setRx_force (s : State) (n : Subnet) (w : List Word16) :
    (s.setRx n w).force = s.force := rfl
@[simp] theorem State.setRx_safety (s : State) (n : Subnet) (w : List Word16) :
    (s.setRx n w).safety = s.safety := rfl
@[simp] theorem State.setRx_raise (s : State) (n : Subnet) (w : List Word16) :
    (s.setRx n w).raise = s.raise := rfl
@[simp] theorem State.setRx_elev (s : State) (n : Subnet) (w : List Word16) :
    (s.setRx n w).elev = s.elev := rfl
@[simp] theorem State.setRx_elevValid (s : State) (n : Subnet) (w : List Word16) :
    (s.setRx n w).elevValid = s.elevValid := rfl
@[simp] theorem State.setRx_cfg (s : State) (n : Subnet) (w : List Word16) :
    (s.setRx n w).cfg = s.cfg := rfl
@[simp] theorem State.setRx_cfgLoaded (s : State) (n : Subnet) (w : List Word16) :
    (s.setRx n w).cfgLoaded = s.cfgLoaded := rfl
@[simp] theorem State.setRx_mapBuilt (s : State) (n : Subnet) (w : List Word16) :
    (s.setRx n w).mapBuilt = s.mapBuilt := rfl
@[simp] theorem State.setRx_log (s : State) (n : Subnet) (w : List Word16) :
    (s.setRx n w).log = s.log := rfl
@[simp] theorem State.setRx_rsp (s : State) (n : Subnet) (w : List Word16) :
    (s.setRx n w).rsp = s.rsp := rfl
@[simp] theorem State.setRx_txOut (s : State) (n : Subnet) (w : List Word16) :
    (s.setRx n w).txOut = s.txOut := rfl
@[simp] theorem State.setRx_inputs (s : State) (n : Subnet) (w : List Word16) :
    (s.setRx n w).inputs = s.inputs := rfl

/-! ### `setRxts` -/

@[simp] theorem State.setRxts_frame (s : State) (n : Subnet) (ts : U64) :
    (s.setRxts n ts).frame = { s.frame with rxts := s.frame.rxts.set n ts } := rfl
@[simp] theorem State.setRxts_force (s : State) (n : Subnet) (ts : U64) :
    (s.setRxts n ts).force = s.force := rfl
@[simp] theorem State.setRxts_safety (s : State) (n : Subnet) (ts : U64) :
    (s.setRxts n ts).safety = s.safety := rfl
@[simp] theorem State.setRxts_raise (s : State) (n : Subnet) (ts : U64) :
    (s.setRxts n ts).raise = s.raise := rfl
@[simp] theorem State.setRxts_elev (s : State) (n : Subnet) (ts : U64) :
    (s.setRxts n ts).elev = s.elev := rfl
@[simp] theorem State.setRxts_elevValid (s : State) (n : Subnet) (ts : U64) :
    (s.setRxts n ts).elevValid = s.elevValid := rfl
@[simp] theorem State.setRxts_cfg (s : State) (n : Subnet) (ts : U64) :
    (s.setRxts n ts).cfg = s.cfg := rfl
@[simp] theorem State.setRxts_cfgLoaded (s : State) (n : Subnet) (ts : U64) :
    (s.setRxts n ts).cfgLoaded = s.cfgLoaded := rfl
@[simp] theorem State.setRxts_mapBuilt (s : State) (n : Subnet) (ts : U64) :
    (s.setRxts n ts).mapBuilt = s.mapBuilt := rfl
@[simp] theorem State.setRxts_log (s : State) (n : Subnet) (ts : U64) :
    (s.setRxts n ts).log = s.log := rfl
@[simp] theorem State.setRxts_rsp (s : State) (n : Subnet) (ts : U64) :
    (s.setRxts n ts).rsp = s.rsp := rfl
@[simp] theorem State.setRxts_txOut (s : State) (n : Subnet) (ts : U64) :
    (s.setRxts n ts).txOut = s.txOut := rfl
@[simp] theorem State.setRxts_inputs (s : State) (n : Subnet) (ts : U64) :
    (s.setRxts n ts).inputs = s.inputs := rfl

/-! ### `setAnyTimeout` -/

@[simp] theorem State.setAnyTimeout_frame (s : State) (b : Bool) :
    (s.setAnyTimeout b).frame = { s.frame with anyTimeout := b } := rfl
@[simp] theorem State.setAnyTimeout_force (s : State) (b : Bool) :
    (s.setAnyTimeout b).force = s.force := rfl
@[simp] theorem State.setAnyTimeout_safety (s : State) (b : Bool) :
    (s.setAnyTimeout b).safety = s.safety := rfl
@[simp] theorem State.setAnyTimeout_raise (s : State) (b : Bool) :
    (s.setAnyTimeout b).raise = s.raise := rfl
@[simp] theorem State.setAnyTimeout_elev (s : State) (b : Bool) :
    (s.setAnyTimeout b).elev = s.elev := rfl
@[simp] theorem State.setAnyTimeout_elevValid (s : State) (b : Bool) :
    (s.setAnyTimeout b).elevValid = s.elevValid := rfl
@[simp] theorem State.setAnyTimeout_cfg (s : State) (b : Bool) : (s.setAnyTimeout b).cfg = s.cfg := rfl
@[simp] theorem State.setAnyTimeout_cfgLoaded (s : State) (b : Bool) :
    (s.setAnyTimeout b).cfgLoaded = s.cfgLoaded := rfl
@[simp] theorem State.setAnyTimeout_mapBuilt (s : State) (b : Bool) :
    (s.setAnyTimeout b).mapBuilt = s.mapBuilt := rfl
@[simp] theorem State.setAnyTimeout_log (s : State) (b : Bool) : (s.setAnyTimeout b).log = s.log := rfl
@[simp] theorem State.setAnyTimeout_rsp (s : State) (b : Bool) : (s.setAnyTimeout b).rsp = s.rsp := rfl
@[simp] theorem State.setAnyTimeout_txOut (s : State) (b : Bool) :
    (s.setAnyTimeout b).txOut = s.txOut := rfl
@[simp] theorem State.setAnyTimeout_inputs (s : State) (b : Bool) :
    (s.setAnyTimeout b).inputs = s.inputs := rfl

/-! ### `setMap` -/

@[simp] theorem State.setMap_frame (s : State) (m : PerSubnet (List MapCell)) :
    (s.setMap m).frame = { s.frame with ilcMap := m } := rfl
@[simp] theorem State.setMap_force (s : State) (m : PerSubnet (List MapCell)) :
    (s.setMap m).force = s.force := rfl
@[simp] theorem State.setMap_safety (s : State) (m : PerSubnet (List MapCell)) :
    (s.setMap m).safety = s.safety := rfl
@[simp] theorem State.setMap_raise (s : State) (m : PerSubnet (List MapCell)) :
    (s.setMap m).raise = s.raise := rfl
@[simp] theorem State.setMap_elev (s : State) (m : PerSubnet (List MapCell)) :
    (s.setMap m).elev = s.elev := rfl
@[simp] theorem State.setMap_elevValid (s : State) (m : PerSubnet (List MapCell)) :
    (s.setMap m).elevValid = s.elevValid := rfl
@[simp] theorem State.setMap_cfg (s : State) (m : PerSubnet (List MapCell)) :
    (s.setMap m).cfg = s.cfg := rfl
@[simp] theorem State.setMap_cfgLoaded (s : State) (m : PerSubnet (List MapCell)) :
    (s.setMap m).cfgLoaded = s.cfgLoaded := rfl
@[simp] theorem State.setMap_mapBuilt (s : State) (m : PerSubnet (List MapCell)) :
    (s.setMap m).mapBuilt = true := rfl
@[simp] theorem State.setMap_log (s : State) (m : PerSubnet (List MapCell)) :
    (s.setMap m).log = s.log := rfl
@[simp] theorem State.setMap_rsp (s : State) (m : PerSubnet (List MapCell)) :
    (s.setMap m).rsp = s.rsp := rfl
@[simp] theorem State.setMap_txOut (s : State) (m : PerSubnet (List MapCell)) :
    (s.setMap m).txOut = s.txOut := rfl
@[simp] theorem State.setMap_inputs (s : State) (m : PerSubnet (List MapCell)) :
    (s.setMap m).inputs = s.inputs := rfl

/-! ### `setComp` -/

@[simp] theorem State.setComp_frame (s : State) (c : Comp) (v : Component) :
    (s.setComp c v).frame = s.frame := rfl
@[simp] theorem State.setComp_force (s : State) (c : Comp) (v : Component) :
    (s.setComp c v).force = { s.force with fc := s.force.fc.set c v } := rfl
@[simp] theorem State.setComp_safety (s : State) (c : Comp) (v : Component) :
    (s.setComp c v).safety = s.safety := rfl
@[simp] theorem State.setComp_raise (s : State) (c : Comp) (v : Component) :
    (s.setComp c v).raise = s.raise := rfl
@[simp] theorem State.setComp_elev (s : State) (c : Comp) (v : Component) :
    (s.setComp c v).elev = s.elev := rfl
@[simp] theorem State.setComp_elevValid (s : State) (c : Comp) (v : Component) :
    (s.setComp c v).elevValid = s.elevValid := rfl
@[simp] theorem State.setComp_cfg (s : State) (c : Comp) (v : Component) :
    (s.setComp c v).cfg = s.cfg := rfl
@[simp] theorem State.setComp_cfgLoaded (s : State) (c : Comp) (v : Component) :
    (s.setComp c v).cfgLoaded = s.cfgLoaded := rfl
@[simp] theorem State.setComp_mapBuilt (s : State) (c : Comp) (v : Component) :
    (s.setComp c v).mapBuilt = s.mapBuilt := rfl
@[simp] theorem State.setComp_log (s : State) (c : Comp) (v : Component) :
    (s.setComp c v).log = s.log := rfl
@[simp] theorem State.setComp_rsp (s : State) (c : Comp) (v : Component) :
    (s.setComp c v).rsp = s.rsp := rfl
@[simp] theorem State.setComp_txOut (s : State) (c : Comp) (v : Component) :
    (s.setComp c v).txOut = s.txOut := rfl
@[simp] theorem State.setComp_inputs (s : State) (c : Comp) (v : Component) :
    (s.setComp c v).inputs = s.inputs := rfl

/-! ### `enableComp` -/

@[simp] theorem State.enableComp_frame (s : State) (c : Comp) : (s.enableComp c).frame = s.frame := rfl
@[simp] theorem State.enableComp_force (s : State) (c : Comp) :
    (s.enableComp c).force = { s.force with fc := s.force.fc.set c { s.force.fc.get c with state := .enabled } } := rfl
@[simp] theorem State.enableComp_safety (s : State) (c : Comp) :
    (s.enableComp c).safety = s.safety := rfl
@[simp] theorem State.enableComp_raise (s : State) (c : Comp) : (s.enableComp c).raise = s.raise := rfl
@[simp] theorem State.enableComp_elev (s : State) (c : Comp) : (s.enableComp c).elev = s.elev := rfl
@[simp] theorem State.enableComp_elevValid (s : State) (c : Comp) :
    (s.enableComp c).elevValid = s.elevValid := rfl
@[simp] theorem State.enableComp_cfg (s : State) (c : Comp) : (s.enableComp c).cfg = s.cfg := rfl
@[simp] theorem State.enableComp_cfgLoaded (s : State) (c : Comp) :
    (s.enableComp c).cfgLoaded = s.cfgLoaded := rfl
@[simp] theorem State.enableComp_mapBuilt (s : State) (c : Comp) :
    (s.enableComp c).mapBuilt = s.mapBuilt := rfl
@[simp] theorem State.enableComp_log (s : State) (c : Comp) : (s.enableComp c).log = s.log := rfl
@[simp] theorem State.enableComp_rsp (s : State) (c : Comp) : (s.enableComp c).rsp = s.rsp := rfl
@[simp] theorem State.enableComp_txOut (s : State) (c : Comp) : (s.enableComp c).txOut = s.txOut := rfl
@[simp] theorem State.enableComp_inputs (s : State) (c : Comp) :
    (s.enableComp c).inputs = s.inputs := rfl

/-! ### `disableComp` -/

@[simp] theorem State.disableComp_frame (s : State) (c : Comp) :
    (s.disableComp c).frame = s.frame := rfl
@[simp] theorem State.disableComp_force (s : State) (c : Comp) :
    (s.disableComp c).force = { s.force with fc := s.force.fc.set c (s.force.fc.get c).disable } := rfl
@[simp] theorem State.disableComp_safety (s : State) (c : Comp) :
    (s.disableComp c).safety = s.safety := rfl
@[simp] theorem State.disableComp_raise (s : State) (c : Comp) :
    (s.disableComp c).raise = s.raise := rfl
@[simp] theorem State.disableComp_elev (s : State) (c : Comp) : (s.disableComp c).elev = s.elev := rfl
@[simp] theorem State.disableComp_elevValid (s : State) (c : Comp) :
    (s.disableComp c).elevValid = s.elevValid := rfl
@[simp] theorem State.disableComp_cfg (s : State) (c : Comp) : (s.disableComp c).cfg = s.cfg := rfl
@[simp] theorem State.disableComp_cfgLoaded (s : State) (c : Comp) :
    (s.disableComp c).cfgLoaded = s.cfgLoaded := rfl
@[simp] theorem State.disableComp_mapBuilt (s : State) (c : Comp) :
    (s.disableComp c).mapBuilt = s.mapBuilt := rfl
@[simp] theorem State.disableComp_log (s : State) (c : Comp) : (s.disableComp c).log = s.log := rfl
@[simp] theorem State.disableComp_rsp (s : State) (c : Comp) : (s.disableComp c).rsp = s.rsp := rfl
@[simp] theorem State.disableComp_txOut (s : State) (c : Comp) :
    (s.disableComp c).txOut = s.txOut := rfl
@[simp] theorem State.disableComp_inputs (s : State) (c : Comp) :
    (s.disableComp c).inputs = s.inputs := rfl

/-! ### `setFin` -/

@[simp] theorem State.setFin_frame (s : State) (v : FinalStage) : (s.setFin v).frame = s.frame := rfl
@[simp] theorem State.setFin_force (s : State) (v : FinalStage) :
    (s.setFin v).force = { s.force with fin := v } := rfl
@[simp] theorem State.setFin_safety (s : State) (v : FinalStage) : (s.setFin v).safety = s.safety := rfl
@[simp] theorem State.setFin_raise (s : State) (v : FinalStage) : (s.setFin v).raise = s.raise := rfl
@[simp] theorem State.setFin_elev (s : State) (v : FinalStage) : (s.setFin v).elev = s.elev := rfl
@[simp] theorem State.setFin_elevValid (s : State) (v : FinalStage) :
    (s.setFin v).elevValid = s.elevValid := rfl
@[simp] theorem State.setFin_cfg (s : State) (v : FinalStage) : (s.setFin v).cfg = s.cfg := rfl
@[simp] theorem State.setFin_cfgLoaded (s : State) (v : FinalStage) :
    (s.setFin v).cfgLoaded = s.cfgLoaded := rfl
@[simp] theorem State.setFin_mapBuilt (s : State) (v : FinalStage) :
    (s.setFin v).mapBuilt = s.mapBuilt := rfl
@[simp] theorem State.setFin_log (s : State) (v : FinalStage) : (s.setFin v).log = s.log := rfl
@[simp] theorem State.setFin_rsp (s : State) (v : FinalStage) : (s.setFin v).rsp = s.rsp := rfl
@[simp] theorem State.setFin_txOut (s : State) (v : FinalStage) : (s.setFin v).txOut = s.txOut := rfl
@[simp] theorem State.setFin_inputs (s : State) (v : FinalStage) : (s.setFin v).inputs = s.inputs := rfl

/-! ### `setMomentCount` -/

@[simp] theorem State.setMomentCount_frame (s : State) (n : Nat) :
    (s.setMomentCount n).frame = s.frame := rfl
@[simp] theorem State.setMomentCount_force (s : State) (n : Nat) :
    (s.setMomentCount n).force = { s.force with momentWarnCnt := n } := rfl
@[simp] theorem State.setMomentCount_safety (s : State) (n : Nat) :
    (s.setMomentCount n).safety = s.safety := rfl
@[simp] theorem State.setMomentCount_raise (s : State) (n : Nat) :
    (s.setMomentCount n).raise = s.raise := rfl
@[simp] theorem State.setMomentCount_elev (s : State) (n : Nat) :
    (s.setMomentCount n).elev = s.elev := rfl
@[simp] theorem State.setMomentCount_elevValid (s : State) (n : Nat) :
    (s.setMomentCount n).elevValid = s.elevValid := rfl
@[simp] theorem State.setMomentCount_cfg (s : State) (n : Nat) : (s.setMomentCount n).cfg = s.cfg := rfl
@[simp] theorem State.setMomentCount_cfgLoaded (s : State) (n : Nat) :
    (s.setMomentCount n).cfgLoaded = s.cfgLoaded := rfl
@[simp] theorem State.setMomentCount_mapBuilt (s : State) (n : Nat) :
    (s.setMomentCount n).mapBuilt = s.mapBuilt := rfl
@[simp] theorem State.setMomentCount_log (s : State) (n : Nat) : (s.setMomentCount n).log = s.log := rfl
@[simp] theorem State.setMomentCount_rsp (s : State) (n : Nat) : (s.setMomentCount n).rsp = s.rsp := rfl
@[simp] theorem State.setMomentCount_txOut (s : State) (n : Nat) :
    (s.setMomentCount n).txOut = s.txOut := rfl
@[simp] theorem State.setMomentCount_inputs (s : State) (n : Nat) :
    (s.setMomentCount n).inputs = s.inputs := rfl

/-! ### `computeResultant` -/

@[simp] theorem State.computeResultant_frame (s : State) : s.computeResultant.frame = s.frame := rfl
@[simp] theorem State.computeResultant_force (s : State) :
    s.computeResultant.force = { s.force with res := resultantOf s.cfg s.force.fin.preclipped } := rfl
@[simp] theorem State.computeResultant_safety (s : State) : s.computeResultant.safety = s.safety := rfl
@[simp] theorem State.computeResultant_raise (s : State) : s.computeResultant.raise = s.raise := rfl
@[simp] theorem State.computeResultant_elev (s : State) : s.computeResultant.elev = s.elev := rfl
@[simp] theorem State.computeResultant_elevValid (s : State) :
    s.computeResultant.elevValid = s.elevValid := rfl
@[simp] theorem State.computeResultant_cfg (s : State) : s.computeResultant.cfg = s.cfg := rfl
@[simp] theorem State.computeResultant_cfgLoaded (s : State) :
    s.computeResultant.cfgLoaded = s.cfgLoaded := rfl
@[simp] theorem State.computeResultant_mapBuilt (s : State) :
    s.computeResultant.mapBuilt = s.mapBuilt := rfl
@[simp] theorem State.computeResultant_log (s : State) : s.computeResultant.log = s.log := rfl
@[simp] theorem State.computeResultant_rsp (s : State) : s.computeResultant.rsp = s.rsp := rfl
@[simp] theorem State.computeResultant_txOut (s : State) : s.computeResultant.txOut = s.txOut := rfl
@[simp] theorem State.computeResultant_inputs (s : State) : s.computeResultant.inputs = s.inputs := rfl

/-! ### `setRaise` -/

@[simp] theorem State.setRaise_frame (s : State) (u : RaiseUnit) : (s.setRaise u).frame = s.frame := rfl
@[simp] theorem State.setRaise_force (s : State) (u : RaiseUnit) : (s.setRaise u).force = s.force := rfl
@[simp] theorem State.setRaise_safety (s : State) (u : RaiseUnit) :
    (s.setRaise u).safety = s.safety := rfl
@[simp] theorem State.setRaise_raise (s : State) (u : RaiseUnit) : (s.setRaise u).raise = u := rfl
@[simp] theorem State.setRaise_elev (s : State) (u : RaiseUnit) : (s.setRaise u).elev = s.elev := rfl
@[simp] theorem State.setRaise_elevValid (s : State) (u : RaiseUnit) :
    (s.setRaise u).elevValid = s.elevValid := rfl
@[simp] theorem State.setRaise_cfg (s : State) (u : RaiseUnit) : (s.setRaise u).cfg = s.cfg := rfl
@[simp] theorem State.setRaise_cfgLoaded (s : State) (u : RaiseUnit) :
    (s.setRaise u).cfgLoaded = s.cfgLoaded := rfl
@[simp] theorem State.setRaise_mapBuilt (s : State) (u : RaiseUnit) :
    (s.setRaise u).mapBuilt = s.mapBuilt := rfl
@[simp] theorem State.setRaise_log (s : State) (u : RaiseUnit) : (s.setRaise u).log = s.log := rfl
@[simp] theorem State.setRaise_rsp (s : State) (u : RaiseUnit) : (s.setRaise u).rsp = s.rsp := rfl
@[simp] theorem State.setRaise_txOut (s : State) (u : RaiseUnit) : (s.setRaise u).txOut = s.txOut := rfl
@[simp] theorem State.setRaise_inputs (s : State) (u : RaiseUnit) :
    (s.setRaise u).inputs = s.inputs := rfl

/-! ### `setPct` -/

@[simp] theorem State.setPct_frame (s : State) (v : F64) : (s.setPct v).frame = s.frame := rfl
@[simp] theorem State.setPct_force (s : State) (v : F64) : (s.setPct v).force = s.force := rfl
@[simp] theorem State.setPct_safety (s : State) (v : F64) : (s.setPct v).safety = s.safety := rfl
@[simp] theorem State.setPct_raise (s : State) (v : F64) :
    (s.setPct v).raise = { s.raise with pct := v } := rfl
@[simp] theorem State.setPct_elev (s : State) (v : F64) : (s.setPct v).elev = s.elev := rfl
@[simp] theorem State.setPct_elevValid (s : State) (v : F64) :
    (s.setPct v).elevValid = s.elevValid := rfl
@[simp] theorem State.setPct_cfg (s : State) (v : F64) : (s.setPct v).cfg = s.cfg := rfl
@[simp] theorem State.setPct_cfgLoaded (s : State) (v : F64) :
    (s.setPct v).cfgLoaded = s.cfgLoaded := rfl
@[simp] theorem State.setPct_mapBuilt (s : State) (v : F64) : (s.setPct v).mapBuilt = s.mapBuilt := rfl
@[simp] theorem State.setPct_log (s : State) (v : F64) : (s.setPct v).log = s.log := rfl
@[simp] theorem State.setPct_rsp (s : State) (v : F64) : (s.setPct v).rsp = s.rsp := rfl
@[simp] theorem State.setPct_txOut (s : State) (v : F64) : (s.setPct v).txOut = s.txOut := rfl
@[simp] theorem State.setPct_inputs (s : State) (v : F64) : (s.setPct v).inputs = s.inputs := rfl

/-! ### `setHpc` -/

@[simp] theorem State.setHpc_frame (s : State) (h : Hp) (v : InRangeCounter) :
    (s.setHpc h v).frame = s.frame := rfl
@[simp] theorem State.setHpc_force (s : State) (h : Hp) (v : InRangeCounter) :
    (s.setHpc h v).force = s.force := rfl
@[simp] theorem State.setHpc_safety (s : State) (h : Hp) (v : InRangeCounter) :
    (s.setHpc h v).safety = s.safety := rfl
@[simp] theorem State.setHpc_raise (s : State) (h : Hp) (v : InRangeCounter) :
    (s.setHpc h v).raise = { s.raise with hpc := s.raise.hpc.set h v } := rfl
@[simp] theorem State.setHpc_elev (s : State) (h : Hp) (v : InRangeCounter) :
    (s.setHpc h v).elev = s.elev := rfl
@[simp] theorem State.setHpc_elevValid (s : State) (h : Hp) (v : InRangeCounter) :
    (s.setHpc h v).elevValid = s.elevValid := rfl
@[simp] theorem State.setHpc_cfg (s : State) (h : Hp) (v : InRangeCounter) :
    (s.setHpc h v).cfg = s.cfg := rfl
@[simp] theorem State.setHpc_cfgLoaded (s : State) (h : Hp) (v : InRangeCounter) :
    (s.setHpc h v).cfgLoaded = s.cfgLoaded := rfl
@[simp] theorem State.setHpc_mapBuilt (s : State) (h : Hp) (v : InRangeCounter) :
    (s.setHpc h v).mapBuilt = s.mapBuilt := rfl
@[simp] theorem State.setHpc_log (s : State) (h : Hp) (v : InRangeCounter) :
    (s.setHpc h v).log = s.log := rfl
@[simp] theorem State.setHpc_rsp (s : State) (h : Hp) (v : InRangeCounter) :
    (s.setHpc h v).rsp = s.rsp := rfl
@[simp] theorem State.setHpc_txOut (s : State) (h : Hp) (v : InRangeCounter) :
    (s.setHpc h v).txOut = s.txOut := rfl
@[simp] theorem State.setHpc_inputs (s : State) (h : Hp) (v : InRangeCounter) :
    (s.setHpc h v).inputs = s.inputs := rfl

/-! ### `pushIlc` -/

@[simp] theorem State.pushIlc_frame (s : State) (b : Bool) : (s.pushIlc b).frame = s.frame := rfl
@[simp] theorem State.pushIlc_force (s : State) (b : Bool) : (s.pushIlc b).force = s.force := rfl
@[simp] theorem State.pushIlc_safety (s : State) (b : Bool) :
    (s.pushIlc b).safety = { s.safety with winIlc := winPush s.safety.winIlc b } := rfl
@[simp] theorem State.pushIlc_raise (s : State) (b : Bool) : (s.pushIlc b).raise = s.raise := rfl
@[simp] theorem State.pushIlc_elev (s : State) (b : Bool) : (s.pushIlc b).elev = s.elev := rfl
@[simp] theorem State.pushIlc_elevValid (s : State) (b : Bool) :
    (s.pushIlc b).elevValid = s.elevValid := rfl
@[simp] theorem State.pushIlc_cfg (s : State) (b : Bool) : (s.pushIlc b).cfg = s.cfg := rfl
@[simp] theorem State.pushIlc_cfgLoaded (s : State) (b : Bool) :
    (s.pushIlc b).cfgLoaded = s.cfgLoaded := rfl
@[simp] theorem State.pushIlc_mapBuilt (s : State) (b : Bool) :
    (s.pushIlc b).mapBuilt = s.mapBuilt := rfl
@[simp] theorem State.pushIlc_log (s : State) (b : Bool) : (s.pushIlc b).log = s.log := rfl
@[simp] theorem State.pushIlc_rsp (s : State) (b : Bool) : (s.pushIlc b).rsp = s.rsp := rfl
@[simp] theorem State.pushIlc_txOut (s : State) (b : Bool) : (s.pushIlc b).txOut = s.txOut := rfl
@[simp] theorem State.pushIlc_inputs (s : State) (b : Bool) : (s.pushIlc b).inputs = s.inputs := rfl

/-! ### `pushFe` -/

@[simp] theorem State.pushFe_frame (s : State) (i : Nat) (b : Bool) :
    (s.pushFe i b).frame = s.frame := rfl
@[simp] theorem State.pushFe_force (s : State) (i : Nat) (b : Bool) :
    (s.pushFe i b).force = s.force := rfl
@[simp] theorem State.pushFe_safety (s : State) (i : Nat) (b : Bool) :
    (s.pushFe i b).safety = { s.safety with winFe := modifyAt s.safety.winFe i (fun w => winPush w b) } := rfl
@[simp] theorem State.pushFe_raise (s : State) (i : Nat) (b : Bool) :
    (s.pushFe i b).raise = s.raise := rfl
@[simp] theorem State.pushFe_elev (s : State) (i : Nat) (b : Bool) : (s.pushFe i b).elev = s.elev := rfl
@[simp] theorem State.pushFe_elevValid (s : State) (i : Nat) (b : Bool) :
    (s.pushFe i b).elevValid = s.elevValid := rfl
@[simp] theorem State.pushFe_cfg (s : State) (i : Nat) (b : Bool) : (s.pushFe i b).cfg = s.cfg := rfl
@[simp] theorem State.pushFe_cfgLoaded (s : State) (i : Nat) (b : Bool) :
    (s.pushFe i b).cfgLoaded = s.cfgLoaded := rfl
@[simp] theorem State.pushFe_mapBuilt (s : State) (i : Nat) (b : Bool) :
    (s.pushFe i b).mapBuilt = s.mapBuilt := rfl
@[simp] theorem State.pushFe_log (s : State) (i : Nat) (b : Bool) : (s.pushFe i b).log = s.log := rfl
@[simp] theorem State.pushFe_rsp (s : State) (i : Nat) (b : Bool) : (s.pushFe i b).rsp = s.rsp := rfl
@[simp] theorem State.pushFe_txOut (s : State) (i : Nat) (b : Bool) :
    (s.pushFe i b).txOut = s.txOut := rfl
@[simp] theorem State.pushFe_inputs (s : State) (i : Nat) (b : Bool) :
    (s.pushFe i b).inputs = s.inputs := rfl

/-! ### `pushHpf` -/

@[simp] theorem State.pushHpf_frame (s : State) (h : Hp) (b : Bool) :
    (s.pushHpf h b).frame = s.frame := rfl
@[simp] theorem State.pushHpf_force (s : State) (h : Hp) (b : Bool) :
    (s.pushHpf h b).force = s.force := rfl
@[simp] theorem State.pushHpf_safety (s : State) (h : Hp) (b : Bool) :
    (s.pushHpf h b).safety = { s.safety with winHpf := s.safety.winHpf.set h (winPush (s.safety.winHpf.get h) b) } := rfl
@[simp] theorem State.pushHpf_raise (s : State) (h : Hp) (b : Bool) :
    (s.pushHpf h b).raise = s.raise := rfl
@[simp] theorem State.pushHpf_elev (s : State) (h : Hp) (b : Bool) :
    (s.pushHpf h b).elev = s.elev := rfl
@[simp] theorem State.pushHpf_elevValid (s : State) (h : Hp) (b : Bool) :
    (s.pushHpf h b).elevValid = s.elevValid := rfl
@[simp] theorem State.pushHpf_cfg (s : State) (h : Hp) (b : Bool) : (s.pushHpf h b).cfg = s.cfg := rfl
@[simp] theorem State.pushHpf_cfgLoaded (s : State) (h : Hp) (b : Bool) :
    (s.pushHpf h b).cfgLoaded = s.cfgLoaded := rfl
@[simp] theorem State.pushHpf_mapBuilt (s : State) (h : Hp) (b : Bool) :
    (s.pushHpf h b).mapBuilt = s.mapBuilt := rfl
@[simp] theorem State.pushHpf_log (s : State) (h : Hp) (b : Bool) : (s.pushHpf h b).log = s.log := rfl
@[simp] theorem State.pushHpf_rsp (s : State) (h : Hp) (b : Bool) : (s.pushHpf h b).rsp = s.rsp := rfl
@[simp] theorem State.pushHpf_txOut (s : State) (h : Hp) (b : Bool) :
    (s.pushHpf h b).txOut = s.txOut := rfl
@[simp] theorem State.pushHpf_inputs (s : State) (h : Hp) (b : Bool) :
    (s.pushHpf h b).inputs = s.inputs := rfl

/-! ### `pushHpa` -/

@[simp] theorem State.pushHpa_frame (s : State) (h : Hp) (b : Bool) :
    (s.pushHpa h b).frame = s.frame := rfl
@[simp] theorem State.pushHpa_force (s : State) (h : Hp) (b : Bool) :
    (s.pushHpa h b).force = s.force := rfl
@[simp] theorem State.pushHpa_safety (s : State) (h : Hp) (b : Bool) :
    (s.pushHpa h b).safety = { s.safety with winHpa := s.safety.winHpa.set h (winPush (s.safety.winHpa.get h) b) } := rfl
@[simp] theorem State.pushHpa_raise (s : State) (h : Hp) (b : Bool) :
    (s.pushHpa h b).raise = s.raise := rfl
@[simp] theorem State.pushHpa_elev (s : State) (h : Hp) (b : Bool) :
    (s.pushHpa h b).elev = s.elev := rfl
@[simp] theorem State.pushHpa_elevValid (s : State) (h : Hp) (b : Bool) :
    (s.pushHpa h b).elevValid = s.elevValid := rfl
@[simp] theorem State.pushHpa_cfg (s : State) (h : Hp) (b : Bool) : (s.pushHpa h b).cfg = s.cfg := rfl
@[simp] theorem State.pushHpa_cfgLoaded (s : State) (h : Hp) (b : Bool) :
    (s.pushHpa h b).cfgLoaded = s.cfgLoaded := rfl
@[simp] theorem State.pushHpa_mapBuilt (s : State) (h : Hp) (b : Bool) :
    (s.pushHpa h b).mapBuilt = s.mapBuilt := rfl
@[simp] theorem State.pushHpa_log (s : State) (h : Hp) (b : Bool) : (s.pushHpa h b).log = s.log := rfl
@[simp] theorem State.pushHpa_rsp (s : State) (h : Hp) (b : Bool) : (s.pushHpa h b).rsp = s.rsp := rfl
@[simp] theorem State.pushHpa_txOut (s : State) (h : Hp) (b : Bool) :
    (s.pushHpa h b).txOut = s.txOut := rfl
@[simp] theorem State.pushHpa_inputs (s : State) (h : Hp) (b : Bool) :
    (s.pushHpa h b).inputs = s.inputs := rfl

/-! ### `clearLatch` -/

@[simp] theorem State.clearLatch_frame (s : State) : s.clearLatch.frame = s.frame := rfl
@[simp] theorem State.clearLatch_force (s : State) : s.clearLatch.force = s.force := rfl
@[simp] theorem State.clearLatch_safety (s : State) :
    s.clearLatch.safety = { s.safety with err := ErrorReg.init } := rfl
@[simp] theorem State.clearLatch_raise (s : State) : s.clearLatch.raise = s.raise := rfl
@[simp] theorem State.clearLatch_elev (s : State) : s.clearLatch.elev = s.elev := rfl
@[simp] theorem State.clearLatch_elevValid (s : State) : s.clearLatch.elevValid = s.elevValid := rfl
@[simp] theorem State.clearLatch_cfg (s : State) : s.clearLatch.cfg = s.cfg := rfl
@[simp] theorem State.clearLatch_cfgLoaded (s : State) : s.clearLatch.cfgLoaded = s.cfgLoaded := rfl
@[simp] theorem State.clearLatch_mapBuilt (s : State) : s.clearLatch.mapBuilt = s.mapBuilt := rfl
@[simp] theorem State.clearLatch_log (s : State) : s.clearLatch.log = s.log := rfl
@[simp] theorem State.clearLatch_rsp (s : State) : s.clearLatch.rsp = s.rsp := rfl
@[simp] theorem State.clearLatch_txOut (s : State) : s.clearLatch.txOut = s.txOut := rfl
@[simp] theorem State.clearLatch_inputs (s : State) : s.clearLatch.inputs = s.inputs := rfl

/-! ### `enterFault` -/

@[simp] theorem State.enterFault_frame (s : State) : s.enterFault.frame = s.frame := rfl
@[simp] theorem State.enterFault_force (s : State) : s.enterFault.force = s.force := rfl
@[simp] theorem State.enterFault_safety (s : State) :
    s.enterFault.safety = { s.safety with errPub := s.safety.err, err := ErrorReg.init } := rfl
@[simp] theorem State.enterFault_raise (s : State) : s.enterFault.raise = s.raise := rfl
@[simp] theorem State.enterFault_elev (s : State) : s.enterFault.elev = s.elev := rfl
@[simp] theorem State.enterFault_elevValid (s : State) : s.enterFault.elevValid = s.elevValid := rfl
@[simp] theorem State.enterFault_cfg (s : State) : s.enterFault.cfg = s.cfg := rfl
@[simp] theorem State.enterFault_cfgLoaded (s : State) : s.enterFault.cfgLoaded = s.cfgLoaded := rfl
@[simp] theorem State.enterFault_mapBuilt (s : State) : s.enterFault.mapBuilt = s.mapBuilt := rfl
@[simp] theorem State.enterFault_log (s : State) :
    s.enterFault.log = s.log ++ [.errorCode s.safety.err.code s.safety.err.report] := rfl
@[simp] theorem State.enterFault_rsp (s : State) : s.enterFault.rsp = s.rsp := rfl
@[simp] theorem State.enterFault_txOut (s : State) : s.enterFault.txOut = s.txOut := rfl
@[simp] theorem State.enterFault_inputs (s : State) : s.enterFault.inputs = s.inputs := rfl

/-! ### `loadCfg` -/

@[simp] theorem State.loadCfg_frame (s : State) (c : Cfg) :
    (s.loadCfg c).frame = FrameUnit.init c := rfl
@[simp] theorem State.loadCfg_force (s : State) (c : Cfg) :
    (s.loadCfg c).force = ForceUnit.init c := rfl
@[simp] theorem State.loadCfg_safety (s : State) (c : Cfg) :
    (s.loadCfg c).safety = SafetyUnit.init c := rfl
@[simp] theorem State.loadCfg_raise (s : State) (c : Cfg) :
    (s.loadCfg c).raise = { s.raise with hpc := PerHp.pure InRangeCounter.init } := rfl
@[simp] theorem State.loadCfg_elev (s : State) (c : Cfg) : (s.loadCfg c).elev = s.elev := rfl
@[simp] theorem State.loadCfg_elevValid (s : State) (c : Cfg) :
    (s.loadCfg c).elevValid = s.elevValid := rfl
@[simp] theorem State.loadCfg_cfg (s : State) (c : Cfg) : (s.loadCfg c).cfg = c := rfl
@[simp] theorem State.loadCfg_cfgLoaded (s : State) (c : Cfg) : (s.loadCfg c).cfgLoaded = true := rfl
@[simp] theorem State.loadCfg_mapBuilt (s : State) (c : Cfg) : (s.loadCfg c).mapBuilt = false := rfl
@[simp] theorem State.loadCfg_log (s : State) (c : Cfg) : (s.loadCfg c).log = s.log := rfl
@[simp] theorem State.loadCfg_rsp (s : State) (c : Cfg) : (s.loadCfg c).rsp = s.rsp := rfl
@[simp] theorem State.loadCfg_txOut (s : State) (c : Cfg) : (s.loadCfg c).txOut = s.txOut := rfl
@[simp] theorem State.loadCfg_inputs (s : State) (c : Cfg) : (s.loadCfg c).inputs = s.inputs := rfl

/-! ### `withFetchWord` -/

@[simp] theorem State.withFetchWord_frame (s : State) (k w : Nat) :
    (s.withFetchWord k w).frame = s.frame := rfl
@[simp] theorem State.withFetchWord_force (s : State) (k w : Nat) :
    (s.withFetchWord k w).force = s.force := rfl
@[simp] theorem State.withFetchWord_safety (s : State) (k w : Nat) :
    (s.withFetchWord k w).safety = s.safety := rfl
@[simp] theorem State.withFetchWord_raise (s : State) (k w : Nat) :
    (s.withFetchWord k w).raise = s.raise := rfl
@[simp] theorem State.withFetchWord_elev (s : State) (k w : Nat) :
    (s.withFetchWord k w).elev = s.elev := rfl
@[simp] theorem State.withFetchWord_elevValid (s : State) (k w : Nat) :
    (s.withFetchWord k w).elevValid = s.elevValid := rfl
@[simp] theorem State.withFetchWord_cfg (s : State) (k w : Nat) :
    (s.withFetchWord k w).cfg = s.cfg := rfl
@[simp] theorem State.withFetchWord_cfgLoaded (s : State) (k w : Nat) :
    (s.withFetchWord k w).cfgLoaded = s.cfgLoaded := rfl
@[simp] theorem State.withFetchWord_mapBuilt (s : State) (k w : Nat) :
    (s.withFetchWord k w).mapBuilt = s.mapBuilt := rfl
@[simp] theorem State.withFetchWord_log (s : State) (k w : Nat) :
    (s.withFetchWord k w).log = s.log := rfl
@[simp] theorem State.withFetchWord_rsp (s : State) (k w : Nat) :
    (s.withFetchWord k w).rsp = s.rsp := rfl
@[simp] theorem State.withFetchWord_txOut (s : State) (k w : Nat) :
    (s.withFetchWord k w).txOut = s.txOut := rfl
@[simp] theorem State.withFetchWord_inputs (s : State) (k w : Nat) :
    (s.withFetchWord k w).inputs = tableInput k w :: s.inputs := rfl

/-! ### `resetAll` -/

@[simp] theorem State.resetAll_frame (s : State) : s.resetAll.frame = State.reset.frame := rfl
@[simp] theorem State.resetAll_force (s : State) : s.resetAll.force = State.reset.force := rfl
@[simp] theorem State.resetAll_safety (s : State) : s.resetAll.safety = State.reset.safety := rfl
@[simp] theorem State.resetAll_raise (s : State) : s.resetAll.raise = State.reset.raise := rfl
@[simp] theorem State.resetAll_elev (s : State) : s.resetAll.elev = State.reset.elev := rfl
@[simp] theorem State.resetAll_elevValid (s : State) : s.resetAll.elevValid = State.reset.elevValid := rfl
@[simp] theorem State.resetAll_cfg (s : State) : s.resetAll.cfg = State.reset.cfg := rfl
@[simp] theorem State.resetAll_cfgLoaded (s : State) : s.resetAll.cfgLoaded = State.reset.cfgLoaded := rfl
@[simp] theorem State.resetAll_mapBuilt (s : State) : s.resetAll.mapBuilt = State.reset.mapBuilt := rfl
@[simp] theorem State.resetAll_log (s : State) : s.resetAll.log = State.reset.log := rfl
@[simp] theorem State.resetAll_rsp (s : State) : s.resetAll.rsp = State.reset.rsp := rfl
@[simp] theorem State.resetAll_txOut (s : State) : s.resetAll.txOut = s.txOut := rfl
@[simp] theorem State.resetAll_inputs (s : State) : s.resetAll.inputs = s.inputs := rfl

/-! ### `clearFaults` -/

@[simp] theorem State.clearFaults_frame (s : State) : s.clearFaults.frame = s.frame := rfl
@[simp] theorem State.clearFaults_raise (s : State) : s.clearFaults.raise = s.raise := rfl
@[simp] theorem State.clearFaults_elev (s : State) : s.clearFaults.elev = s.elev := rfl
@[simp] theorem State.clearFaults_elevValid (s : State) : s.clearFaults.elevValid = s.elevValid := rfl
@[simp] theorem State.clearFaults_cfg (s : State) : s.clearFaults.cfg = s.cfg := rfl
@[simp] theorem State.clearFaults_cfgLoaded (s : State) : s.clearFaults.cfgLoaded = s.cfgLoaded := rfl
@[simp] theorem State.clearFaults_mapBuilt (s : State) : s.clearFaults.mapBuilt = s.mapBuilt := rfl
@[simp] theorem State.clearFaults_log (s : State) : s.clearFaults.log = s.log := rfl
@[simp] theorem State.clearFaults_rsp (s : State) : s.clearFaults.rsp = s.rsp := rfl
@[simp] theorem State.clearFaults_txOut (s : State) : s.clearFaults.txOut = s.txOut := rfl
@[simp] theorem State.clearFaults_inputs (s : State) : s.clearFaults.inputs = s.inputs := rfl

/-! ### `notify` -/

@[simp] theorem State.notify_frame (s : State) (c : FaultCode) (b : Bool) (r : List Byte) : (s.notify c b r).frame = s.frame := by
  unfold State.notify; split <;> rfl
@[simp] theorem State.notify_force (s : State) (c : FaultCode) (b : Bool) (r : List Byte) : (s.notify c b r).force = s.force := by
  unfold State.notify; split <;> rfl
@[simp] theorem State.notify_raise (s : State) (c : FaultCode) (b : Bool) (r : List Byte) : (s.notify c b r).raise = s.raise := by
  unfold State.notify; split <;> rfl
@[simp] theorem State.notify_elev (s : State) (c : FaultCode) (b : Bool) (r : List Byte) : (s.notify c b r).elev = s.elev := by
  unfold State.notify; split <;> rfl
@[simp] theorem State.notify_elevValid (s : State) (c : FaultCode) (b : Bool) (r : List Byte) : (s.notify c b r).elevValid = s.elevValid := by
  unfold State.notify; split <;> rfl
@[simp] theorem State.notify_cfg (s : State) (c : FaultCode) (b : Bool) (r : List Byte) : (s.notify c b r).cfg = s.cfg := by
  unfold State.notify; split <;> rfl
@[simp] theorem State.notify_cfgLoaded (s : State) (c : FaultCode) (b : Bool) (r : List Byte) : (s.notify c b r).cfgLoaded = s.cfgLoaded := by
  unfold State.notify; split <;> rfl
@[simp] theorem State.notify_mapBuilt (s : State) (c : FaultCode) (b : Bool) (r : List Byte) : (s.notify c b r).mapBuilt = s.mapBuilt := by
  unfold State.notify; split <;> rfl
@[simp] theorem State.notify_log (s : State) (c : FaultCode) (b : Bool) (r : List Byte) : (s.notify c b r).log = s.log := by
  unfold State.notify; split <;> rfl
@[simp] theorem State.notify_rsp (s : State) (c : FaultCode) (b : Bool) (r : List Byte) : (s.notify c b r).rsp = s.rsp := by
  unfold State.notify; split <;> rfl
@[simp] theorem State.notify_txOut (s : State) (c : FaultCode) (b : Bool) (r : List Byte) : (s.notify c b r).txOut = s.txOut := by
  unfold State.notify; split <;> rfl
@[simp] theorem State.notify_inputs (s : State) (c : FaultCode) (b : Bool) (r : List Byte) : (s.notify c b r).inputs = s.inputs := by
  unfold State.notify; split <;> rfl

/-! ### `logClip` -/

@[simp] theorem State.logClip_frame (s : State) (k : Nat) (t : Tri Bool) : (s.logClip k t).frame = s.frame := by
  unfold State.logClip; split <;> rfl
@[simp] theorem State.logClip_force (s : State) (k : Nat) (t : Tri Bool) : (s.logClip k t).force = s.force := by
  unfold State.logClip; split <;> rfl
@[simp] theorem State.logClip_safety (s : State) (k : Nat) (t : Tri Bool) : (s.logClip k t).safety = s.safety := by
  unfold State.logClip; split <;> rfl
@[simp] theorem State.logClip_raise (s : State) (k : Nat) (t : Tri Bool) : (s.logClip k t).raise = s.raise := by
  unfold State.logClip; split <;> rfl
@[simp] theorem State.logClip_elev (s : State) (k : Nat) (t : Tri Bool) : (s.logClip k t).elev = s.elev := by
  unfold State.logClip; split <;> rfl
@[simp] theorem State.logClip_elevValid (s : State) (k : Nat) (t : Tri Bool) : (s.logClip k t).elevValid = s.elevValid := by
  unfold State.logClip; split <;> rfl
@[simp] theorem State.logClip_cfg (s : State) (k : Nat) (t : Tri Bool) : (s.logClip k t).cfg = s.cfg := by
  unfold State.logClip; split <;> rfl
@[simp] theorem State.logClip_cfgLoaded (s : State) (k : Nat) (t : Tri Bool) : (s.logClip k t).cfgLoaded = s.cfgLoaded := by
  unfold State.logClip; split <;> rfl
@[simp] theorem State.logClip_mapBuilt (s : State) (k : Nat) (t : Tri Bool) : (s.logClip k t).mapBuilt = s.mapBuilt := by
  unfold State.logClip; split <;> rfl
@[simp] theorem State.logClip_rsp (s : State) (k : Nat) (t : Tri Bool) : (s.logClip k t).rsp = s.rsp := by
  unfold State.logClip; split <;> rfl
@[simp] theorem State.logClip_txOut (s : State) (k : Nat) (t : Tri Bool) : (s.logClip k t).txOut = s.txOut := by
  unfold State.logClip; split <;> rfl
@[simp] theorem State.logClip_inputs (s : State) (k : Nat) (t : Tri Bool) : (s.logClip k t).inputs = s.inputs := by
  unfold State.logClip; split <;> rfl

/-! ### `holdAir` -/

@[simp] theorem State.holdAir_frame (s : State) : s.holdAir.frame = s.frame := by
  unfold State.holdAir; split <;> rfl
@[simp] theorem State.holdAir_force (s : State) : s.holdAir.force = s.force := by
  unfold State.holdAir; split <;> rfl
@[simp] theorem State.holdAir_safety (s : State) : s.holdAir.safety = s.safety := by
  unfold State.holdAir; split <;> rfl
@[simp] theorem State.holdAir_elev (s : State) : s.holdAir.elev = s.elev := by
  unfold State.holdAir; split <;> rfl
@[simp] theorem State.holdAir_elevValid (s : State) : s.holdAir.elevValid = s.elevValid := by
  unfold State.holdAir; split <;> rfl
@[simp] theorem State.holdAir_cfg (s : State) : s.holdAir.cfg = s.cfg := by
  unfold State.holdAir; split <;> rfl
@[simp] theorem State.holdAir_cfgLoaded (s : State) : s.holdAir.cfgLoaded = s.cfgLoaded := by
  unfold State.holdAir; split <;> rfl
@[simp] theorem State.holdAir_mapBuilt (s : State) : s.holdAir.mapBuilt = s.mapBuilt := by
  unfold State.holdAir; split <;> rfl
@[simp] theorem State.holdAir_rsp (s : State) : s.holdAir.rsp = s.rsp := by
  unfold State.holdAir; split <;> rfl
@[simp] theorem State.holdAir_txOut (s : State) : s.holdAir.txOut = s.txOut := by
  unfold State.holdAir; split <;> rfl
@[simp] theorem State.holdAir_inputs (s : State) : s.holdAir.inputs = s.inputs := by
  unfold State.holdAir; split <;> rfl

/-! ### `stall` -/

@[simp] theorem State.stall_frame (s : State) : s.stall.frame = s.frame := by
  unfold State.stall; split <;> rfl
@[simp] theorem State.stall_force (s : State) : s.stall.force = s.force := by
  unfold State.stall; split <;> rfl
@[simp] theorem State.stall_safety (s : State) : s.stall.safety = s.safety := by
  unfold State.stall; split <;> rfl
@[simp] theorem State.stall_elev (s : State) : s.stall.elev = s.elev := by
  unfold State.stall; split <;> rfl
@[simp] theorem State.stall_elevValid (s : State) : s.stall.elevValid = s.elevValid := by
  unfold State.stall; split <;> rfl
@[simp] theorem State.stall_cfg (s : State) : s.stall.cfg = s.cfg := by
  unfold State.stall; split <;> rfl
@[simp] theorem State.stall_cfgLoaded (s : State) : s.stall.cfgLoaded = s.cfgLoaded := by
  unfold State.stall; split <;> rfl
@[simp] theorem State.stall_mapBuilt (s : State) : s.stall.mapBuilt = s.mapBuilt := by
  unfold State.stall; split <;> rfl
@[simp] theorem State.stall_rsp (s : State) : s.stall.rsp = s.rsp := by
  unfold State.stall; split <;> rfl
@[simp] theorem State.stall_txOut (s : State) : s.stall.txOut = s.txOut := by
  unfold State.stall; split <;> rfl
@[simp] theorem State.stall_inputs (s : State) : s.stall.inputs = s.inputs := by
  unfold State.stall; split <;> rfl

/-! ### Outcomes -/

@[simp] theorem State.done_eq (s : State) (d : RspData) : s.done d = .next (s.respond .ok d) := rfl
@[simp] theorem State.refuse_eq (s : State) (st : Status) : s.refuse st = .next (s.respond st .none) := rfl

end Sys2Proof.Machine
end

