-- ==== Sys2Proof/Laws/Tables.lean ====
section
/-! SUPPORT. What the configuration's functions can answer (Machine/Tables.lean). -/

namespace Sys2Proof

@[simp] theorem fitWidth_length (w : Nat) (p : List Byte) : (fitWidth w p).length = w := by
  simp [fitWidth]

theorem fitWidth_of_length {w : Nat} {p : List Byte} (h : p.length = w) : fitWidth w p = p := by
  subst h; simp [fitWidth]

theorem requestWidth_single_lt_dual (n : BitVec 16) : requestWidth n .single < requestWidth n .dual := by
  simp only [requestWidth]; omega

/-- A function 75 request to a force actuator has the width of its axis class, and its force values were
given. -/
theorem forceRequest_some {n : BitVec 16} {e : IlcEntry} {ax : Axis} {args : AppendArgs} {p : List Byte}
    (h : forceRequest n e ax args = some p) :
    p.length = requestWidth n ax ∧ args.primary.isSome = true ∧
      (ax = .dual → args.secondary.isSome = true) := by
  cases ax <;> simp only [forceRequest] at h <;> split at h <;>
    simp_all only [Option.map_eq_some_iff, reduceCtorEq, Bool.and_eq_true]
  all_goals obtain ⟨q, -, rfl⟩ := h; simp

theorem payloadAxis_eq_single {f : FnCode} (h75 : f ≠ .forceDemand) (h76 : f ≠ .pneumaticForceStatus)
    (ax : Axis) : payloadAxis f ax = .single := by
  simp [payloadAxis, h75, h76]

@[simp] theorem f32IsFinite_finite32 (v : F32) : f32IsFinite (finite32 v) = true := by
  unfold finite32
  split
  · assumption
  · decide

end Sys2Proof
end

