-- ==== Sys2Proof/Tests/Slice0.lean ====
section
/-! SUPPORT. Tests on fixed values. Expected results are the spec's: its encodings (spec/30_encoding.md),
its vectors (spec/95_test_vectors.md, named `V-…` and `P1` to `P5` there), or a sum worked by hand from a
rule. The last part has, for every statement with hypotheses, a state and operands that meet them. -/

namespace Sys2Proof.Tests

set_option Elab.async false

open Sys2Proof Sys2Proof.Machine

/-! ## The test configurations of spec/95_test_vectors.md -/

def fx (n : Nat) : F32 := f32OfNat n

/-- The directives of `TC1`. -/
def tcTiming (f : FnCode) : TimingEntry :=
  match f with
  | .forceDemand | .pneumaticForceStatus => ⟨f, .waitRx, 1800⟩
  | .eraseApplication | .writeApplication | .verifyApplication | .resetApplication => ⟨f, .delay, 4000⟩
  | _ => ⟨f, .waitRx, 450⟩

def tcWire : WireCfg where
  txDataWord := (List.range 256).map (fun b => BitVec.ofNat 16 (0x1000 + 2 * b))
  swTrigger := 0x3000
  triggerIrq := 0x7000
  txEndOfFrame := 0x2000
  directiveWord := [⟨.waitRx, 1800, 0x6708⟩, ⟨.delay, 4000, 0x4FA0⟩, ⟨.waitRx, 450, 0x61C2⟩]
  rxEofTag := 0xA

def tcFrame : FrameCfg where
  timing := FnCode.all.map tcTiming
  wire := tcWire
  floatOrder := .little
  recognised := FnCode.all.flatMap (fun f => (defaultTypes f).map (fun t => ⟨t, f⟩))
  excDecrements := false
  irqTimeoutMs := 10
  txCap := 512
  rxCap := 512

/-- The bits of 100.0, 4.5, 8.0, … -/
def f100 : F32 := 0x42C80000
def f4h : F32 := 0x40900000

def limitsAll (n nx ny : Nat) (x y z : F32) : Limits :=
  ⟨⟨List.replicate nx (f32Neg x), List.replicate ny (f32Neg y), List.replicate n (f32Neg z)⟩,
    ⟨List.replicate nx x, List.replicate ny y, List.replicate n z⟩⟩

def tcForce (n nx ny : Nat) (pos : List Vec3) (near : List (List Nat)) : ForceCfg where
  limits := { PerComp.pure (limitsAll n nx ny f100 f100 f100) with static := limitsAll n nx ny f100 f100 f4h }
  finalLimits := limitsAll n nx ny f100 f100 (fx 8)
  maxRate := PerComp.pure (fx 2)
  nearZeroEps := 0x3F000000
  pos := pos
  momentFault := ⟨fx 50, fx 50, fx 50⟩
  momentWarn := ⟨fx 20, fx 20, fx 20⟩
  momentWarnCount := 2
  nearNbr := near
  farNbr := List.replicate n []
  nearAbs := fx 5
  nearRel := 0x3F000000
  farAbs := fx 10
  farRel := fx 1
  weightTol := fx 2

def tcSafety : SafetyCfg where
  faultEnabled := (List.range 22).filterMap FaultCode.ofCode
  winPeriod := ⟨3, 2, 2, 2⟩
  winThreshold := ⟨2, 2, 2, 1⟩
  reportMax := 32
  nTrig := 0

/-- The bits of 25.0, 50.0, 600.0, 300.0 in binary64. -/
def d25 : F64 := 0x4039000000000000
def d50 : F64 := 0x4049000000000000
def d600 : F64 := 0x4082C00000000000
def d300 : F64 := 0x4072C00000000000

def tcRaise : RaiseCfg where
  raiseInc := d25
  lowerDec := d50
  staticEnablePct := d50
  raiseTimeout := d600
  lowerTimeout := d300
  feRaiseTol := fx 1
  hpRaiseBand := ⟨f32Neg (fx 50), fx 50⟩
  hpLowerBand := ⟨f32Neg (fx 80), fx 80⟩
  hpcBand := fx 1
  hpcInRange := 2
  hpcMax := 5

def hpRow (h : Nat) : ActuatorRow :=
  ⟨⟨BitVec.ofNat 32 (h + 1), BitVec.ofNat 32 h, -1, -1, -1, .hardpoint⟩, 5, BitVec.ofNat 8 (h + 1)⟩

/-- `TC1`. -/
def tc1 : Cfg where
  plant :=
    { nFA := 17, nX := 0, nY := 1
      actuatorTable :=
        [⟨⟨105, 4, -1, -1, -1, .forceActuator⟩, 1, 5⟩, ⟨⟨117, 16, 0, -1, 0, .forceActuator⟩, 1, 17⟩,
          ⟨⟨1, 0, -1, -1, -1, .hardpoint⟩, 5, 1⟩]
      orientation := List.replicate 16 .singleAxis ++ [.positiveY]
      xIndex := List.replicate 17 (-1)
      yIndex := List.replicate 16 (-1) ++ [0]
      subnetAddrs := ⟨[5, 17, 255], [255], [255], [255], [1, 255]⟩ }
  tables := .tc
  frame := tcFrame
  force := tcForce 17 0 1 (List.replicate 17 ⟨0, 0, 0⟩) (List.replicate 17 [])
  safety := tcSafety
  raise := tcRaise

/-- `TC2`. -/
def tc2 : Cfg where
  plant :=
    { nFA := 3, nX := 1, nY := 1
      actuatorTable :=
        [⟨⟨101, 0, -1, -1, -1, .forceActuator⟩, 1, 1⟩, ⟨⟨102, 1, -1, 0, -1, .forceActuator⟩, 1, 17⟩,
          ⟨⟨103, 2, -1, -1, 0, .forceActuator⟩, 1, 18⟩] ++ (List.range 6).map hpRow
      orientation := [.singleAxis, .positiveX, .positiveY]
      xIndex := [-1, 0, -1]
      yIndex := [-1, -1, 0]
      subnetAddrs := ⟨[1, 17, 18, 255], [255], [255], [255], [1, 2, 3, 4, 5, 6, 255]⟩ }
  tables := .tc
  frame := tcFrame
  force := tcForce 3 1 1 [⟨fx 1, 0, 0⟩, ⟨0, fx 1, 0⟩, ⟨f32Neg (fx 1), f32Neg (fx 1), 0⟩] [[1, 2], [0, 2], [0, 1]]
  safety := tcSafety
  raise := tcRaise

/-! ## Helpers -/

/-- The state an outcome goes on with; the reset state where it stops. -/
def after (o : Host.Outcome State Fault Refusal) : State :=
  match o with
  | .next s => s
  | _ => State.reset

def run (i : Instr) (s : State) : State := after (exec i s)

def runs (l : List Instr) (s : State) : State := l.foldl (fun t i => run i t) s

/-- The configured start of spec/95_test_vectors.md. -/
def start (c : Cfg) : State := runs [.reset, .settingsLoad c, .mapBuild] State.reset

def status (s : State) : Option Status :=
  match s.rsp with
  | some r => some r.status
  | none => none

def result (s : State) : Option RspData :=
  match s.rsp with
  | some r => some r.data
  | none => none

def dataCells (bs : List Byte) : List Cell := bs.map Cell.data

/-! ## Start states -/

/-- The reset values in the sizes of a configuration, with a map. -/
def configured (c : Cfg) (m : PerSubnet (List MapCell)) : State :=
  { State.reset with
    cfg := c, cfgLoaded := true, mapBuilt := true
    frame := { FrameUnit.init c with ilcMap := m }
    force := ForceUnit.init c
    safety := SafetyUnit.init c
    rsp := some ⟨.ok, .none⟩ }

/-- The map of `TC1` (R210's example). -/
def map1 : PerSubnet (List MapCell) :=
  ⟨[⟨5, ⟨105, 4, -1, -1, -1, .forceActuator⟩⟩, ⟨17, ⟨117, 16, 0, -1, 0, .forceActuator⟩⟩], [], [], [],
    [⟨1, ⟨1, 0, -1, -1, -1, .hardpoint⟩⟩]⟩

/-- The configured start of `TC1`; `test_start_tc1` shows that `RESET`, `SETTINGS_LOAD`, `MAP_BUILD`
lead there. -/
def S1 : State := configured tc1 map1

/-- The configured start of `TC2`. -/
def S2 : State :=
  configured tc2
    ⟨[⟨1, ⟨101, 0, -1, -1, -1, .forceActuator⟩⟩, ⟨17, ⟨102, 1, -1, 0, -1, .forceActuator⟩⟩,
        ⟨18, ⟨103, 2, -1, -1, 0, .forceActuator⟩⟩], [], [], [],
      (List.range 6).map (fun h => ⟨h + 1, (hpRow h).entry⟩)⟩

def rxOn (n : Subnet) (w : List Word16) (s : State) : State :=
  { s with frame := { s.frame with rx := s.frame.rx.set n w } }

def withRaise (s : State) (f : RaiseUnit → RaiseUnit) : State := { s with raise := f s.raise }

def raising (pct : F64) : State :=
  withRaise S2 (fun r => { r with
    rstate := .running, pct := pct, segStart := 0x408F400000000000, remain := d600
    deadline := 0x4099000000000000, chase := true })

def lowering (pct : F64) : State :=
  withRaise S2 (fun r => { r with
    rstate := .running, rdir := .lower, pct := pct, segStart := 0x40BB580000000000, remain := d300
    deadline := 0x40BC840000000000, chase := true })

/-- A component's state and current forces, in `TC2`. -/
def setC (c : Comp) (st : CompState) (x y : F32) (z : List F32) (s : State) : State :=
  s.setComp c { s.force.fc.get c with state := st, current := ⟨[x], [y], z⟩ }

/-- Every component `Disabled`, a first elevation sample, a percentage. -/
def quiet (pct : F64) : State :=
  { Comp.all.foldl (fun s c => setC c .disabled 0 0 [0, 0, 0] s) S2 with
    elevValid := true, raise := { S2.raise with pct := pct } }

def hundred : F64 := 0x4059000000000000

/-! ## Ill-formed operands: one for each check of WellFormed.lean -/

theorem listFits_replicate {α : Type} (a : α) : listFits (List.replicate (2 ^ 32) a) = false := by
  simp only [listFits, List.length_replicate, Nat.lt_irrefl, decide_false]

theorem test_wf_buffer_length :
    wellFormed (.getU8 (List.replicate (2 ^ 32) .swTrigger) 0) = false := by
  simp only [wellFormed, bufFits, listFits_replicate, Bool.false_and]

theorem test_wf_buffer_cell : wellFormed (.setF32 [.data 0, .directive .delay (2 ^ 64)] 0 0) = false := by
  decide

theorem test_wf_cursor : wellFormed (.getStr [.data 0] (2 ^ 64)) = false := by decide

theorem test_wf_i8 : wellFormed (.setI8 [] 0 128) = false ∧ wellFormed (.setI8 [] 0 (-129)) = false ∧
    wellFormed (.setI8 [] 0 (-128)) = true := by decide

theorem test_wf_i16 : wellFormed (.setI16 [] 0 32768) = false ∧ wellFormed (.setI16 [] 0 (-32769)) = false ∧
    wellFormed (.setI16 [] 0 32767) = true := by decide

theorem test_wf_i32 : wellFormed (.setI32 [] 0 (2 ^ 31)) = false ∧
    wellFormed (.setI32 [] 0 (-(2 ^ 31) - 1)) = false ∧ wellFormed (.setI32 [] 0 (-(2 ^ 31))) = true := by
  decide

theorem test_wf_i64 : wellFormed (.setI64 [] 0 (2 ^ 63)) = false ∧
    wellFormed (.setI64 [] 0 (-(2 ^ 63) - 1)) = false ∧ wellFormed (.setI64 [] 0 (2 ^ 63 - 1)) = true := by
  decide

theorem test_wf_string : wellFormed (.setStr [] 0 (List.replicate (2 ^ 32) 0)) = false := by
  simp only [wellFormed, listFits_replicate, Bool.and_false]

theorem test_wf_crc : wellFormed (.crc16 (List.replicate (2 ^ 32) 0)) = false := by
  simp only [wellFormed, listFits_replicate]

theorem test_wf_append : wellFormed (.append 1 5 75 ⟨none, none, List.replicate (2 ^ 32) 0⟩) = false := by
  simp only [wellFormed, listFits_replicate]

theorem test_wf_rx : wellFormed (.waitIrq 1 true (List.replicate (2 ^ 32) 0)) = false := by
  simp only [wellFormed, listFits_replicate]

theorem test_wf_position : wellFormed (.validateCrc 1 (2 ^ 64)) = false := by decide

theorem test_wf_targets :
    wellFormed (.fcApply 0 (List.replicate (2 ^ 32) 0) [] []) = false ∧
      wellFormed (.fcApply 0 [] (List.replicate (2 ^ 32) 0) []) = false ∧
      wellFormed (.fcApply 0 [] [] (List.replicate (2 ^ 32) 0)) = false := by
  simp only [wellFormed, listFits_replicate, Bool.and_false, Bool.false_and, and_self]

theorem test_wf_reports :
    wellFormed (.notify 5 true (List.replicate (2 ^ 32) 0)) = false ∧
      wellFormed (.notifyFaFollowingError 0 true (List.replicate (2 ^ 32) 0)) = false ∧
      wellFormed (.notifyHpMeasuredForce 0 true (List.replicate (2 ^ 32) 0)) = false ∧
      wellFormed (.notifyHpAirPressure 0 true (List.replicate (2 ^ 32) 0)) = false := by
  simp only [wellFormed, listFits_replicate, Bool.and_false, and_self]

theorem test_wf_actuator : wellFormed (.notifyFaFollowingError (2 ^ 64) true []) = false := by decide

theorem test_wf_plant :
    PlantCfg.fits { cfgAtReset.plant with nFA := 2 ^ 64 } = false ∧
      PlantCfg.fits { cfgAtReset.plant with nX := 2 ^ 64 } = false ∧
      PlantCfg.fits { cfgAtReset.plant with nY := 2 ^ 64 } = false := by decide

theorem test_wf_plant_lists :
    PlantCfg.fits { cfgAtReset.plant with actuatorTable := List.replicate (2 ^ 32) (hpRow 0) } = false ∧
      PlantCfg.fits { cfgAtReset.plant with orientation := List.replicate (2 ^ 32) .singleAxis } = false ∧
      PlantCfg.fits { cfgAtReset.plant with xIndex := List.replicate (2 ^ 32) 0 } = false ∧
      PlantCfg.fits { cfgAtReset.plant with yIndex := List.replicate (2 ^ 32) 0 } = false ∧
      PlantCfg.fits { cfgAtReset.plant with
        subnetAddrs := ⟨[], [], List.replicate (2 ^ 32) 0, [], []⟩ } = false := by
  simp only [PlantCfg.fits, PerSubnet.all, listFits_replicate, Bool.and_false, Bool.false_and, and_self]

theorem test_wf_frame :
    FrameCfg.fits { cfgAtReset.frame with timing := [⟨.stepMotor, .delay, 2 ^ 64⟩] } = false ∧
      FrameCfg.fits { cfgAtReset.frame with
        wire := { tcWire with directiveWord := [⟨.delay, 2 ^ 64, 0⟩] } } = false ∧
      FrameCfg.fits { cfgAtReset.frame with irqTimeoutMs := 2 ^ 64 } = false ∧
      FrameCfg.fits { cfgAtReset.frame with txCap := 2 ^ 64 } = false ∧
      FrameCfg.fits { cfgAtReset.frame with rxCap := 2 ^ 64 } = false := by decide +kernel

theorem test_wf_frame_lists :
    FrameCfg.fits { cfgAtReset.frame with timing := List.replicate (2 ^ 32) ⟨.stepMotor, .delay, 0⟩ } = false ∧
      FrameCfg.fits { cfgAtReset.frame with
        wire := { tcWire with txDataWord := List.replicate (2 ^ 32) 0 } } = false ∧
      FrameCfg.fits { cfgAtReset.frame with
        wire := { tcWire with directiveWord := List.replicate (2 ^ 32) ⟨.delay, 0, 0⟩ } } = false ∧
      FrameCfg.fits { cfgAtReset.frame with
        recognised := List.replicate (2 ^ 32) ⟨.hardpoint, .stepMotor⟩ } = false := by
  simp only [FrameCfg.fits, WireCfg.fits, listFits_replicate, Bool.and_false, Bool.false_and, and_self]

theorem test_wf_force :
    ForceCfg.fits { cfgAtReset.force with momentWarnCount := 2 ^ 64 } = false ∧
      ForceCfg.fits { cfgAtReset.force with nearNbr := [[2 ^ 64]] } = false ∧
      ForceCfg.fits { cfgAtReset.force with farNbr := [[0, 2 ^ 64]] } = false := by decide

theorem test_wf_force_lists :
    ForceCfg.fits { cfgAtReset.force with
        finalLimits := ⟨⟨[], [], List.replicate (2 ^ 32) 0⟩, ⟨[], [], []⟩⟩ } = false ∧
      ForceCfg.fits { cfgAtReset.force with limits := { cfgAtReset.force.limits with
        offset := ⟨⟨[], [], []⟩, ⟨List.replicate (2 ^ 32) 0, [], []⟩⟩ } } = false ∧
      ForceCfg.fits { cfgAtReset.force with pos := List.replicate (2 ^ 32) ⟨0, 0, 0⟩ } = false ∧
      ForceCfg.fits { cfgAtReset.force with farNbr := List.replicate (2 ^ 32) [] } = false := by
  simp only [ForceCfg.fits, Limits.fits, PerComp.all, triFits, nbrFits, listFits_replicate, Bool.and_false,
    Bool.false_and, and_self]

theorem test_wf_safety :
    SafetyCfg.fits { cfgAtReset.safety with winPeriod := ⟨1, 1, 1, 2 ^ 64⟩ } = false ∧
      SafetyCfg.fits { cfgAtReset.safety with winThreshold := ⟨2 ^ 64, 1, 1, 1⟩ } = false ∧
      SafetyCfg.fits { cfgAtReset.safety with reportMax := 2 ^ 64 } = false ∧
      SafetyCfg.fits { cfgAtReset.safety with nTrig := 2 ^ 64 } = false := by decide

theorem test_wf_enabled :
    SafetyCfg.fits { cfgAtReset.safety with faultEnabled := List.replicate (2 ^ 32) .mirrorMoment } = false := by
  simp only [SafetyCfg.fits, listFits_replicate, Bool.false_and]

theorem test_wf_raise :
    RaiseCfg.fits { cfgAtReset.raise with hpcInRange := 2 ^ 64 } = false ∧
      RaiseCfg.fits { cfgAtReset.raise with hpcMax := 2 ^ 64 } = false := by decide

theorem test_wf_settings :
    wellFormed (.settingsLoad { cfgAtReset with raise := { cfgAtReset.raise with hpcMax := 2 ^ 64 } }) =
        false ∧
      wellFormed (.settingsLoad { cfgAtReset with safety := { cfgAtReset.safety with nTrig := 2 ^ 64 } }) =
        false ∧ wellFormed (.settingsLoad tc2) = true := by decide +kernel

/-! ## Decoding: every constructor from bytes written out from the encoding (R126, R127, R140)

The record of the operands is the port's (notes/assumptions/1.md); a response frame's first two bytes
are its address and its function code. -/

theorem test_decode_getU8 : decodeInput (.command
    [0x00, 0x00, 0x00, 0x00, 0x02, 0x00, 0x12, 0x00, 0x34, 0x00, 0x00, 0x00, 0x00, 0x00, 0x00,
     0x00, 0x01]) =
    .ok (.getU8 [.data 0x12, .data 0x34] 1) := by decide

theorem test_decode_getI8 : decodeInput (.command
    [0x01, 0x00, 0x00, 0x00, 0x02, 0x00, 0x12, 0x00, 0x34, 0x00, 0x00, 0x00, 0x00, 0x00, 0x00,
     0x00, 0x01]) =
    .ok (.getI8 [.data 0x12, .data 0x34] 1) := by decide

theorem test_decode_getU16 : decodeInput (.command
    [0x02, 0x00, 0x00, 0x00, 0x02, 0x00, 0x12, 0x00, 0x34, 0x00, 0x00, 0x00, 0x00, 0x00, 0x00,
     0x00, 0x01]) =
    .ok (.getU16 [.data 0x12, .data 0x34] 1) := by decide

theorem test_decode_getI16 : decodeInput (.command
    [0x03, 0x00, 0x00, 0x00, 0x02, 0x00, 0x12, 0x00, 0x34, 0x00, 0x00, 0x00, 0x00, 0x00, 0x00,
     0x00, 0x01]) =
    .ok (.getI16 [.data 0x12, .data 0x34] 1) := by decide

theorem test_decode_getU32 : decodeInput (.command
    [0x04, 0x00, 0x00, 0x00, 0x02, 0x00, 0x12, 0x00, 0x34, 0x00, 0x00, 0x00, 0x00, 0x00, 0x00,
     0x00, 0x01]) =
    .ok (.getU32 [.data 0x12, .data 0x34] 1) := by decide

theorem test_decode_getI32 : decodeInput (.command
    [0x05, 0x00, 0x00, 0x00, 0x02, 0x00, 0x12, 0x00, 0x34, 0x00, 0x00, 0x00, 0x00, 0x00, 0x00,
     0x00, 0x01]) =
    .ok (.getI32 [.data 0x12, .data 0x34] 1) := by decide

theorem test_decode_getU64 : decodeInput (.command
    [0x06, 0x00, 0x00, 0x00, 0x02, 0x00, 0x12, 0x00, 0x34, 0x00, 0x00, 0x00, 0x00, 0x00, 0x00,
     0x00, 0x01]) =
    .ok (.getU64 [.data 0x12, .data 0x34] 1) := by decide

theorem test_decode_getI64 : decodeInput (.command
    [0x07, 0x00, 0x00, 0x00, 0x02, 0x00, 0x12, 0x00, 0x34, 0x00, 0x00, 0x00, 0x00, 0x00, 0x00,
     0x00, 0x01]) =
    .ok (.getI64 [.data 0x12, .data 0x34] 1) := by decide

theorem test_decode_getF32 : decodeInput (.command
    [0x08, 0x00, 0x00, 0x00, 0x02, 0x00, 0x12, 0x00, 0x34, 0x00, 0x00, 0x00, 0x00, 0x00, 0x00,
     0x00, 0x01]) =
    .ok (.getF32 [.data 0x12, .data 0x34] 1) := by decide

theorem test_decode_getF64 : decodeInput (.command
    [0x09, 0x00, 0x00, 0x00, 0x02, 0x00, 0x12, 0x00, 0x34, 0x00, 0x00, 0x00, 0x00, 0x00, 0x00,
     0x00, 0x01]) =
    .ok (.getF64 [.data 0x12, .data 0x34] 1) := by decide

theorem test_decode_getStr : decodeInput (.command
    [0x0A, 0x00, 0x00, 0x00, 0x02, 0x00, 0x12, 0x00, 0x34, 0x00, 0x00, 0x00, 0x00, 0x00, 0x00,
     0x00, 0x01]) =
    .ok (.getStr [.data 0x12, .data 0x34] 1) := by decide

theorem test_decode_setU8 : decodeInput (.command
    [0x10, 0x00, 0x00, 0x00, 0x04, 0x01, 0x02, 0x03, 0x04, 0x01, 0x00, 0x00, 0x00, 0x00, 0x00,
     0x00, 0x0F, 0xA0, 0x00, 0x00, 0x00, 0x00, 0x00, 0x00, 0x00, 0x01, 0xFE]) =
    .ok (.setU8 [.swTrigger, .triggerIrq, .endOfFrame, .directive .delay 4000] 1 0xFE) := by decide

theorem test_decode_setI8 : decodeInput (.command
    [0x11, 0x00, 0x00, 0x00, 0x01, 0x00, 0x00, 0x00, 0x00, 0x00, 0x00, 0x00, 0x00, 0x01, 0x00,
     0xFE]) =
    .ok (.setI8 [.data 0] 256 (-2)) := by decide

theorem test_decode_setU16 : decodeInput (.command
    [0x12, 0x00, 0x00, 0x00, 0x01, 0x00, 0x00, 0x00, 0x00, 0x00, 0x00, 0x00, 0x00, 0x01, 0x00,
     0xFE, 0xDC]) =
    .ok (.setU16 [.data 0] 256 0xFEDC) := by decide

theorem test_decode_setI16 : decodeInput (.command
    [0x13, 0x00, 0x00, 0x00, 0x01, 0x00, 0x00, 0x00, 0x00, 0x00, 0x00, 0x00, 0x00, 0x01, 0x00,
     0xFF, 0xFE]) =
    .ok (.setI16 [.data 0] 256 (-2)) := by decide

theorem test_decode_setU32 : decodeInput (.command
    [0x14, 0x00, 0x00, 0x00, 0x01, 0x00, 0x00, 0x00, 0x00, 0x00, 0x00, 0x00, 0x00, 0x01, 0x00,
     0xFE, 0xDC, 0xBA, 0x98]) =
    .ok (.setU32 [.data 0] 256 0xFEDCBA98) := by decide

theorem test_decode_setI32 : decodeInput (.command
    [0x15, 0x00, 0x00, 0x00, 0x01, 0x00, 0x00, 0x00, 0x00, 0x00, 0x00, 0x00, 0x00, 0x01, 0x00,
     0xFF, 0xFF, 0xD8, 0xF0]) =
    .ok (.setI32 [.data 0] 256 (-10000)) := by decide

theorem test_decode_setU64 : decodeInput (.command
    [0x16, 0x00, 0x00, 0x00, 0x01, 0x00, 0x00, 0x00, 0x00, 0x00, 0x00, 0x00, 0x00, 0x01, 0x00,
     0x01, 0x02, 0x03, 0x04, 0x05, 0x06, 0x07, 0x08]) =
    .ok (.setU64 [.data 0] 256 0x0102030405060708) := by decide

theorem test_decode_setI64 : decodeInput (.command
    [0x17, 0x00, 0x00, 0x00, 0x01, 0x00, 0x00, 0x00, 0x00, 0x00, 0x00, 0x00, 0x00, 0x01, 0x00,
     0xFF, 0xFF, 0xFF, 0xFF, 0xFF, 0xFF, 0xFF, 0xFD]) =
    .ok (.setI64 [.data 0] 256 (-3)) := by decide

theorem test_decode_setF32 : decodeInput (.command
    [0x18, 0x00, 0x00, 0x00, 0x01, 0x00, 0x00, 0x00, 0x00, 0x00, 0x00, 0x00, 0x00, 0x01, 0x00,
     0x3F, 0x80, 0x00, 0x00]) =
    .ok (.setF32 [.data 0] 256 0x3F800000) := by decide

theorem test_decode_setF64 : decodeInput (.command
    [0x19, 0x00, 0x00, 0x00, 0x01, 0x00, 0x00, 0x00, 0x00, 0x00, 0x00, 0x00, 0x00, 0x01, 0x00,
     0x3F, 0xF0, 0x00, 0x00, 0x00, 0x00, 0x00, 0x00]) =
    .ok (.setF64 [.data 0] 256 0x3FF0000000000000) := by decide

theorem test_decode_setStr : decodeInput (.command
    [0x1A, 0x00, 0x00, 0x00, 0x01, 0x00, 0x00, 0x00, 0x00, 0x00, 0x00, 0x00, 0x00, 0x01, 0x00,
     0x00, 0x00, 0x00, 0x02, 0x61, 0x62]) =
    .ok (.setStr [.data 0] 256 [0x61, 0x62]) := by decide

theorem test_decode_crc16 : decodeInput (.command
    [0x1F, 0x00, 0x00, 0x00, 0x02, 0x05, 0x11]) =
    .ok (.crc16 [0x05, 0x11]) := by decide

theorem test_decode_startSubnet : decodeInput (.command
    [0x20, 0x03]) =
    .ok (.startSubnet 3) := by decide

theorem test_decode_append : decodeInput (.command
    [0x21, 0x01, 0x11, 0x4B, 0x01, 0x3F, 0x80, 0x00, 0x00, 0x01, 0xBF, 0x80, 0x00, 0x00, 0x00,
     0x00, 0x00, 0x01, 0x09]) =
    .ok (.append 1 17 75 ⟨some 0x3F800000, some 0xBF800000, [9]⟩) := by decide

theorem test_decode_endSubnet : decodeInput (.command
    [0x22, 0x04]) =
    .ok (.endSubnet 4) := by decide

theorem test_decode_send : decodeInput (.command
    [0x24, 0x05]) =
    .ok (.send 5) := by decide

theorem test_decode_waitIrq : decodeInput (.command
    [0x25, 0x02, 0x01, 0x00, 0x00, 0x00, 0x02, 0x90, 0x0A, 0xB0, 0x00]) =
    .ok (.waitIrq 2 true [0x900A, 0xB000]) := by decide

theorem test_decode_mapBuild : decodeInput (.command
    [0x30]) =
    .ok (.mapBuild) := by decide

theorem test_decode_parse : decodeInput (.command
    [0x31, 0x06, 0x01, 0x01]) =
    .ok (.parse 6 (some 1)) := by decide

theorem test_decode_reconcile : decodeInput (.command
    [0x32, 0x00, 0x00, 0x00, 0x00, 0x00, 0x01, 0xE2, 0x40]) =
    .ok (.reconcile 0x1E240) := by decide

theorem test_decode_validateCrc : decodeInput (.command
    [0x33, 0x01, 0x00, 0x00, 0x00, 0x00, 0x00, 0x00, 0x00, 0x04]) =
    .ok (.validateCrc 1 4) := by decide

theorem test_decode_fcEnable : decodeInput (.command
    [0x40, 0x01]) =
    .ok (.fcEnable 1) := by decide

theorem test_decode_fcDisable : decodeInput (.command
    [0x41, 0x03]) =
    .ok (.fcDisable 3) := by decide

theorem test_decode_fcApply : decodeInput (.command
    [0x42, 0x00, 0x00, 0x00, 0x00, 0x01, 0x3F, 0x80, 0x00, 0x00, 0x00, 0x00, 0x00, 0x00, 0x00,
     0x00, 0x00, 0x02, 0x40, 0xA0, 0x00, 0x00, 0x00, 0x00, 0x00, 0x00]) =
    .ok (.fcApply 0 [0x3F800000] [] [0x40A00000, 0]) := by decide

theorem test_decode_fcZero : decodeInput (.command
    [0x43, 0x02]) =
    .ok (.fcZero 2) := by decide

theorem test_decode_fcUpdate : decodeInput (.command
    [0x44, 0x08]) =
    .ok (.fcUpdate 8) := by decide

theorem test_decode_updateApplied : decodeInput (.command
    [0x45]) =
    .ok (.updateApplied) := by decide

theorem test_decode_processApplied : decodeInput (.command
    [0x46]) =
    .ok (.processApplied) := by decide

theorem test_decode_notify : decodeInput (.command
    [0x50, 0x05, 0x01, 0x00, 0x00, 0x00, 0x01, 0x61]) =
    .ok (.notify 5 true [0x61]) := by decide

theorem test_decode_notifyIlcTimeout : decodeInput (.command
    [0x51]) =
    .ok (.notifyIlcTimeout) := by decide

theorem test_decode_notifyFaFollowingError : decodeInput (.command
    [0x52, 0x00, 0x00, 0x00, 0x00, 0x00, 0x00, 0x00, 0x02, 0x01, 0x00, 0x00, 0x00, 0x01, 0x66]) =
    .ok (.notifyFaFollowingError 2 true [0x66]) := by decide

theorem test_decode_notifyHpMeasuredForce : decodeInput (.command
    [0x53, 0x04, 0x00, 0x00, 0x00, 0x00, 0x01, 0x68]) =
    .ok (.notifyHpMeasuredForce 4 false [0x68]) := by decide

theorem test_decode_notifyHpAirPressure : decodeInput (.command
    [0x54, 0x05, 0x01, 0x00, 0x00, 0x00, 0x00]) =
    .ok (.notifyHpAirPressure 5 true []) := by decide

theorem test_decode_checkSafety : decodeInput (.command
    [0x58, 0x02]) =
    .ok (.checkSafety 2) := by decide

theorem test_decode_clearError : decodeInput (.command
    [0x59]) =
    .ok (.clearError) := by decide

theorem test_decode_clearErrorCode : decodeInput (.command
    [0x5A]) =
    .ok (.clearErrorCode) := by decide

theorem test_decode_raiseStart : decodeInput (.command
    [0x60, 0x01, 0x40, 0x8F, 0x40, 0x00, 0x00, 0x00, 0x00, 0x00]) =
    .ok (.raiseStart true 0x408F400000000000) := by decide

theorem test_decode_raiseRunloop : decodeInput (.command
    [0x61, 0x01]) =
    .ok (.raiseRunloop true) := by decide

theorem test_decode_raiseCheckComplete : decodeInput (.command
    [0x62, 0x00]) =
    .ok (.raiseCheckComplete false) := by decide

theorem test_decode_raiseComplete : decodeInput (.command
    [0x63]) =
    .ok (.raiseComplete) := by decide

theorem test_decode_checkTimeout : decodeInput (.command
    [0x64, 0x40, 0x8F, 0x40, 0x00, 0x00, 0x00, 0x00, 0x00]) =
    .ok (.checkTimeout 0x408F400000000000) := by decide

theorem test_decode_timeout : decodeInput (.command
    [0x65]) =
    .ok (.timeout) := by decide

theorem test_decode_pause : decodeInput (.command
    [0x66, 0x40, 0x8F, 0x40, 0x00, 0x00, 0x00, 0x00, 0x00]) =
    .ok (.pause 0x408F400000000000) := by decide

theorem test_decode_resume : decodeInput (.command
    [0x67, 0x40, 0x8F, 0x40, 0x00, 0x00, 0x00, 0x00, 0x00]) =
    .ok (.resume 0x408F400000000000) := by decide

theorem test_decode_rlReset : decodeInput (.command
    [0x68]) =
    .ok (.rlReset) := by decide

theorem test_decode_lowerStart : decodeInput (.command
    [0x69, 0x40, 0x8F, 0x40, 0x00, 0x00, 0x00, 0x00, 0x00]) =
    .ok (.lowerStart 0x408F400000000000) := by decide

theorem test_decode_lowerRunloop : decodeInput (.command
    [0x6A]) =
    .ok (.lowerRunloop) := by decide

theorem test_decode_lowerCheckComplete : decodeInput (.command
    [0x6B]) =
    .ok (.lowerCheckComplete) := by decide

theorem test_decode_lowerComplete : decodeInput (.command
    [0x6C]) =
    .ok (.lowerComplete) := by decide

theorem test_decode_spInc : decodeInput (.command
    [0x70]) =
    .ok (.spInc) := by decide

theorem test_decode_spDec : decodeInput (.command
    [0x71]) =
    .ok (.spDec) := by decide

theorem test_decode_spZero : decodeInput (.command
    [0x72]) =
    .ok (.spZero) := by decide

theorem test_decode_spFill : decodeInput (.command
    [0x73]) =
    .ok (.spFill) := by decide

theorem test_decode_spFilled : decodeInput (.command
    [0x74]) =
    .ok (.spFilled) := by decide

theorem test_decode_spZeroed : decodeInput (.command
    [0x75]) =
    .ok (.spZeroed) := by decide

theorem test_decode_hpcSample : decodeInput (.command
    [0x78, 0x05, 0x41, 0x20, 0x00, 0x00]) =
    .ok (.hpcSample 5 0x41200000) := by decide

theorem test_decode_hpcReset : decodeInput (.command
    [0x79, 0x01]) =
    .ok (.hpcReset 1) := by decide

theorem test_decode_hpcStatus : decodeInput (.command
    [0x7A, 0x02]) =
    .ok (.hpcStatus 2) := by decide

theorem test_decode_faFeInTol : decodeInput (.command
    [0x7C]) =
    .ok (.faFeInTol) := by decide

theorem test_decode_hpForcesInTol : decodeInput (.command
    [0x7D, 0x01]) =
    .ok (.hpForcesInTol true) := by decide

theorem test_decode_reset : decodeInput (.command
    [0x80]) =
    .ok (.reset) := by decide

theorem test_decode_pullTelemetry : decodeInput (.command
    [0x81, 0x40, 0x46, 0x80, 0x00, 0x00, 0x00, 0x00, 0x00]) =
    .ok (.pullTelemetry 0x4046800000000000) := by decide

theorem test_decode_reportServerID : decodeInput (.response 1 7 [0x05, 0x11, 0x27, 0x10]) =
    .ok (.reportServerID 1 5 [0x27, 0x10] 7) := by decide

theorem test_decode_reportServerStatus : decodeInput (.response 1 7 [0x05, 0x12, 0x27, 0x10]) =
    .ok (.reportServerStatus 1 5 [0x27, 0x10] 7) := by decide

theorem test_decode_changeMode : decodeInput (.response 1 7 [0x05, 0x41, 0x27, 0x10]) =
    .ok (.changeMode 1 5 [0x27, 0x10] 7) := by decide

theorem test_decode_stepMotor : decodeInput (.response 1 7 [0x05, 0x42, 0x27, 0x10]) =
    .ok (.stepMotor 1 5 [0x27, 0x10] 7) := by decide

theorem test_decode_electromechanicalForceAndStatus : decodeInput (.response 1 7 [0x05, 0x43, 0x27, 0x10]) =
    .ok (.electromechanicalForceAndStatus 1 5 [0x27, 0x10] 7) := by decide

theorem test_decode_setBoostValveDCAGains : decodeInput (.response 1 7 [0x05, 0x49, 0x27, 0x10]) =
    .ok (.setBoostValveDCAGains 1 5 [0x27, 0x10] 7) := by decide

theorem test_decode_readBoostValveDCAGains : decodeInput (.response 1 7 [0x05, 0x4A, 0x27, 0x10]) =
    .ok (.readBoostValveDCAGains 1 5 [0x27, 0x10] 7) := by decide

theorem test_decode_forceDemand : decodeInput (.response 1 7 [0x05, 0x4B, 0x27, 0x10]) =
    .ok (.forceDemand 1 5 [0x27, 0x10] 7) := by decide

theorem test_decode_pneumaticForceStatus : decodeInput (.response 1 7 [0x05, 0x4C, 0x27, 0x10]) =
    .ok (.pneumaticForceStatus 1 5 [0x27, 0x10] 7) := by decide

theorem test_decode_setADCScanRate : decodeInput (.response 1 7 [0x05, 0x50, 0x27, 0x10]) =
    .ok (.setADCScanRate 1 5 [0x27, 0x10] 7) := by decide

theorem test_decode_setADCOffsetSensitivity : decodeInput (.response 1 7 [0x05, 0x51, 0x27, 0x10]) =
    .ok (.setADCOffsetSensitivity 1 5 [0x27, 0x10] 7) := by decide

theorem test_decode_eraseApplication : decodeInput (.response 1 7 [0x05, 0x65, 0x27, 0x10]) =
    .ok (.eraseApplication 1 5 [0x27, 0x10] 7) := by decide

theorem test_decode_writeApplication : decodeInput (.response 1 7 [0x05, 0x66, 0x27, 0x10]) =
    .ok (.writeApplication 1 5 [0x27, 0x10] 7) := by decide

theorem test_decode_verifyApplication : decodeInput (.response 1 7 [0x05, 0x67, 0x27, 0x10]) =
    .ok (.verifyApplication 1 5 [0x27, 0x10] 7) := by decide

theorem test_decode_resetApplication : decodeInput (.response 1 7 [0x05, 0x6B, 0x27, 0x10]) =
    .ok (.resetApplication 1 5 [0x27, 0x10] 7) := by decide

theorem test_decode_readCalibration : decodeInput (.response 1 7 [0x05, 0x6E, 0x27, 0x10]) =
    .ok (.readCalibration 1 5 [0x27, 0x10] 7) := by decide

theorem test_decode_readDCAPressure : decodeInput (.response 1 7 [0x05, 0x77, 0x27, 0x10]) =
    .ok (.readDCAPressure 1 5 [0x27, 0x10] 7) := by decide

theorem test_decode_reportDCAID : decodeInput (.response 1 7 [0x05, 0x78, 0x27, 0x10]) =
    .ok (.reportDCAID 1 5 [0x27, 0x10] 7) := by decide

theorem test_decode_reportDCAStatus : decodeInput (.response 1 7 [0x05, 0x79, 0x27, 0x10]) =
    .ok (.reportDCAStatus 1 5 [0x27, 0x10] 7) := by decide

theorem test_decode_reportLVDT : decodeInput (.response 1 7 [0x05, 0x7A, 0x27, 0x10]) =
    .ok (.reportLVDT 1 5 [0x27, 0x10] 7) := by decide

theorem test_decode_exceptionResponse : decodeInput (.response 1 7 [0x05, 0xCB, 0x01]) =
    .ok (.exceptionResponse 1 5 75 [0x01] 7) := by decide

/-! ## The configured starts (V-X4) -/

theorem test_start_tc1 : start tc1 = S1 := by decide +kernel

/-! ## Codec (V-K1 to V-K39) -/

def S1big : State := { S1 with cfg := { tc1 with frame := { tcFrame with floatOrder := .big } } }

def rsp (i : Instr) (s : State) : Option Response := (run i s).rsp

def okRead (v : CodecValue) (cur : Nat) : Option Response := some ⟨.ok, .read v cur⟩

def okWritten (bs : List Byte) (cur : Nat) : Option Response := some ⟨.ok, .written (dataCells bs) cur⟩

theorem test_getU8 : rsp (.getU8 (dataCells [0xFF]) 0) S1 = okRead (.unsigned 255) 1 := by decide +kernel

/-- V-K39. -/
theorem test_getU8_not_data : rsp (.getU8 [.data 5, .endOfFrame] 1) S1 =
    some ⟨.decodeError, .codecError (some (1, 1)) [.data 5, .endOfFrame] 1⟩ := by decide +kernel

/-- V-K3 read backwards. -/
theorem test_getI8 : rsp (.getI8 (dataCells [0x80]) 0) S1 = okRead (.signed (-128)) 1 := by decide +kernel

/-- V-K23. -/
theorem test_getU16 : rsp (.getU16 (dataCells [0x11, 0x22, 0x33, 0x44]) 0) S1 =
    okRead (.unsigned 0x1122) 2 := by decide +kernel

/-- V-K30. -/
theorem test_getU16_past_end : rsp (.getU16 (dataCells [0x12]) 0) S1 =
    some ⟨.decodeError, .codecError (some (0, 2)) (dataCells [0x12]) 0⟩ := by decide +kernel

/-- V-K8 read backwards. -/
theorem test_getI16 : rsp (.getI16 (dataCells [0xFF, 0xFF]) 0) S1 = okRead (.signed (-1)) 2 := by
  decide +kernel

/-- V-K24, little. -/
theorem test_getU32 : rsp (.getU32 (dataCells [0x00, 0x00, 0x80, 0x3F]) 0) S1 =
    okRead (.unsigned 0x0000803F) 4 := by decide +kernel

/-- V-K32. -/
theorem test_getU32_past_end : (rsp (.getU32 (dataCells [0, 0, 0, 0, 0, 0]) 3) S1).map Response.status =
    some .decodeError := by decide +kernel

/-- V-K12 read backwards. -/
theorem test_getI32 : rsp (.getI32 (dataCells [0x00, 0x00, 0x27, 0x10]) 0) S1 =
    okRead (.signed 10000) 4 := by decide +kernel

/-- V-K13 read backwards. -/
theorem test_getU64 : rsp (.getU64 (dataCells [1, 2, 3, 4, 5, 6, 7, 8]) 0) S1 =
    okRead (.unsigned 0x0102030405060708) 8 := by decide +kernel

/-- V-K14 read backwards. -/
theorem test_getI64 : rsp (.getI64 (dataCells [0x80, 0, 0, 0, 0, 0, 0, 0]) 0) S1 =
    okRead (.signed (-9223372036854775808)) 8 := by decide +kernel

/-- V-K18: a NaN is read bit for bit. -/
theorem test_getF32 : rsp (.getF32 (dataCells [0x01, 0x00, 0xC0, 0x7F]) 0) S1 =
    okRead (.f32 0x7FC00001) 4 := by decide +kernel

/-- V-K17 in big order, read backwards. -/
theorem test_getF32_big : rsp (.getF32 (dataCells [0x41, 0x18, 0x00, 0x00]) 0) S1big =
    okRead (.f32 0x41180000) 4 := by decide +kernel

/-- V-K20, both orders. -/
theorem test_getF64 :
    rsp (.getF64 (dataCells [0, 0, 0, 0, 0, 0, 0xF0, 0x3F]) 0) S1 = okRead (.f64 0x3FF0000000000000) 8 ∧
      rsp (.getF64 (dataCells [0x3F, 0xF0, 0, 0, 0, 0, 0, 0]) 0) S1big =
        okRead (.f64 0x3FF0000000000000) 8 := by decide +kernel

/-- V-K21 read backwards. -/
theorem test_getStr : rsp (.getStr (dataCells [0, 0, 0, 0, 3, 0x61, 0x62, 0x63]) 1) S1 =
    okRead (.str [0x61, 0x62, 0x63]) 8 := by decide +kernel

/-- V-K35 and V-K36. -/
theorem test_getStr_refused :
    rsp (.getStr (dataCells [0, 0, 0, 5, 0x61, 0x62]) 0) S1 =
        some ⟨.decodeError, .codecError (some (4, 5)) (dataCells [0, 0, 0, 5, 0x61, 0x62]) 0⟩ ∧
      (rsp (.getStr (dataCells [0xFF, 0xFF, 0xFF, 0xFF, 0x61]) 0) S1).map Response.status =
        some .decodeError := by decide +kernel

/-- V-K2. -/
theorem test_setU8 : rsp (.setU8 (dataCells [0]) 0 255) S1 = okWritten [0xFF] 1 := by decide +kernel

/-- V-K3. -/
theorem test_setI8 : rsp (.setI8 (dataCells [0]) 0 (-128)) S1 = okWritten [0x80] 1 := by decide +kernel

/-- V-K5. -/
theorem test_setU16 : rsp (.setU16 (dataCells [0xAA, 0, 0, 0xBB]) 1 0xFFFF) S1 =
    okWritten [0xAA, 0xFF, 0xFF, 0xBB] 3 := by decide +kernel

/-- V-K33. -/
theorem test_setU16_past_end : rsp (.setU16 (dataCells [0xAA, 0xBB]) 1 0x1234) S1 =
    some ⟨.encodeError, .codecError (some (1, 2)) (dataCells [0xAA, 0xBB]) 1⟩ := by decide +kernel

/-- V-K6. -/
theorem test_setI16 : rsp (.setI16 (dataCells [0, 0]) 0 (-32768)) S1 = okWritten [0x80, 0x00] 2 := by
  decide +kernel

/-- V-K23. -/
theorem test_setU32 : rsp (.setU32 (dataCells [0, 0, 0, 0]) 0 0x11223344) S1 =
    okWritten [0x11, 0x22, 0x33, 0x44] 4 := by decide +kernel

/-- V-K11. -/
theorem test_setI32 : rsp (.setI32 (dataCells [0, 0, 0, 0]) 0 (-2147483648)) S1 =
    okWritten [0x80, 0, 0, 0] 4 := by decide +kernel

/-- V-K13. -/
theorem test_setU64 : rsp (.setU64 (dataCells [0, 0, 0, 0, 0, 0, 0, 0]) 0 0x0102030405060708) S1 =
    okWritten [1, 2, 3, 4, 5, 6, 7, 8] 8 := by decide +kernel

/-- V-K34. -/
theorem test_setU64_past_end : (rsp (.setU64 (dataCells [0, 0, 0, 0, 0, 0, 0]) 0 1) S1).map
    Response.status = some .encodeError := by decide +kernel

/-- V-K15. -/
theorem test_setI64 : rsp (.setI64 (dataCells [0, 0, 0, 0, 0, 0, 0, 0]) 0 9223372036854775807) S1 =
    okWritten [0x7F, 0xFF, 0xFF, 0xFF, 0xFF, 0xFF, 0xFF, 0xFF] 8 := by decide +kernel

/-- V-K17, both orders. -/
theorem test_setF32 : rsp (.setF32 (dataCells [0, 0, 0, 0]) 0 0x41180000) S1 =
      okWritten [0x00, 0x00, 0x18, 0x41] 4 ∧
    rsp (.setF32 (dataCells [0, 0, 0, 0]) 0 0x41180000) S1big = okWritten [0x41, 0x18, 0x00, 0x00] 4 := by
  decide +kernel

/-- V-K20, both orders. -/
theorem test_setF64 : rsp (.setF64 (dataCells [0, 0, 0, 0, 0, 0, 0, 0]) 0 0x3FF0000000000000) S1 =
      okWritten [0, 0, 0, 0, 0, 0, 0xF0, 0x3F] 8 ∧
    rsp (.setF64 (dataCells [0, 0, 0, 0, 0, 0, 0, 0]) 0 0x3FF0000000000000) S1big =
      okWritten [0x3F, 0xF0, 0, 0, 0, 0, 0, 0] 8 := by decide +kernel

/-- V-K21. -/
theorem test_setStr : rsp (.setStr (dataCells [0, 0, 0, 0, 0, 0, 0, 0]) 1 [0x61, 0x62, 0x63]) S1 =
    okWritten [0, 0, 0, 0, 3, 0x61, 0x62, 0x63] 8 := by decide +kernel

/-- V-K38. -/
theorem test_setStr_no_room : (rsp (.setStr (dataCells [0, 0, 0, 0, 0, 0]) 0 [0x61, 0x62, 0x63]) S1).map
    Response.status = some .encodeError := by decide +kernel

/-- V-C2. -/
theorem test_crc16 : rsp (.crc16 [0x31, 0x32, 0x33, 0x34, 0x35, 0x36, 0x37, 0x38, 0x39]) S1 =
    some ⟨.ok, .crc 0x4B37⟩ := by decide +kernel

/-- V-C1, V-C6, V-C9, V-C10. -/
theorem test_crc16_frames : crc16 [] = 0xFFFF ∧ crc16 [0x05, 0x4B, 0x00, 0x00, 0x27, 0x10] = 0x7CBE ∧
    crc16 [0x05, 0x4B, 0x00, 0x00, 0x27, 0x10, 0xBE, 0x7C] = 0 ∧
    crc16 [0x11, 0x4B, 0x00, 0x00, 0x03, 0xE8, 0xFF, 0xFF, 0xFC, 0x18] = 0xAE43 := by decide +kernel

/-! ## Builder and transport (V-B1 to V-B20) -/

def argsP (p : F32) : AppendArgs := ⟨some p, none, []⟩

def noArgs : AppendArgs := ⟨none, none, []⟩

/-- The open batch of V-B2 before and after its `APPEND`. -/
def open1 : State := S1.setTx .s1 ⟨[.data 1, .data 0, .swTrigger], 3, true⟩

def batchB2 : List Cell :=
  [.data 1, .data 0, .swTrigger, .data 0x05, .data 0x4B, .data 0x00, .data 0x00, .data 0x27, .data 0x10,
    .data 0xBE, .data 0x7C, .endOfFrame, .directive .waitRx 1800]

/-- V-B1. -/
theorem test_startSubnet : (run (.startSubnet 3) S1).frame.tx.s3 =
    ⟨[.data 3, .data 0, .swTrigger], 3, true⟩ := by decide +kernel

/-- V-B5 and V-B6. -/
theorem test_startSubnet_refused : status (run (.startSubnet 2) open1) = some .badState ∧
    status (run (.startSubnet 0) S1) = some .badOperand ∧
    status (run (.startSubnet 6) S1) = some .badOperand := by decide +kernel

/-- V-B2. -/
theorem test_append : (run (.append 1 5 75 (argsP 0x41200000)) open1).frame.tx.s1 = ⟨batchB2, 3, true⟩ ∧
    (run (.append 1 5 75 (argsP 0x41200000)) open1).frame.expectFa[4]? = some 1 := by decide +kernel

/-- V-B4, V-B7 to V-B10, V-B13. -/
theorem test_append_refused : status (run (.append 1 5 75 (argsP 0)) S1) = some .badState ∧
    status (run (.append 1 255 75 (argsP 0)) open1) = some .badOperand ∧
    status (run (.append 1 9 75 (argsP 0)) open1) = some .badOperand ∧
    status (run (.append 1 5 66 noArgs) open1) = some .badOperand ∧
    status (run (.append 1 5 203 noArgs) open1) = some .badOperand ∧
    status (run (.append 1 5 75 (argsP 0x41200000))
      { open1.setTx .s1 ⟨batchB2, 3, true⟩ with
        cfg := { tc1 with frame := { tcFrame with txCap := 16 } } }) = some .encodeError := by decide +kernel

/-- V-B2: `L = 10`. -/
theorem test_endSubnet : (run (.endSubnet 1) (open1.setTx .s1 ⟨batchB2, 3, true⟩)).frame.tx.s1 =
    ⟨batchB2.set 1 (.data 10) ++ [.triggerIrq], 3, false⟩ := by decide +kernel

/-- V-B12 and V-B14: 258 cells do not fit the length byte; no batch is open. -/
theorem test_endSubnet_refused :
    status (run (.endSubnet 1) (open1.setTx .s1
      ⟨[.data 1, .data 0, .swTrigger] ++ List.replicate 258 (.data 0), 3, true⟩)) = some .buildOverflow ∧
    status (run (.endSubnet 1) S1) = some .badState := by decide +kernel

/-- V-B2: the fourteen words. -/
theorem test_send : (run (.send 1) (S1.setTx .s1
      ⟨batchB2.set 1 (.data 10) ++ [.triggerIrq], 3, false⟩)).txOut.s1 =
    [0x1002, 0x1014, 0x3000, 0x100A, 0x1096, 0x1000, 0x1000, 0x104E, 0x1020, 0x117C, 0x10F8, 0x2000,
      0x6708, 0x7000] := by decide +kernel

/-- V-B15. -/
theorem test_send_refused : status (run (.send 1) open1) = some .badState ∧
    status (run (.send 2) S1) = some .badState := by decide +kernel

theorem test_waitIrq : (run (.waitIrq 1 true [1, 2, 3]) S1).frame.rx.s1 = [1, 2, 3] ∧
    result (run (.waitIrq 1 true [1, 2, 3]) S1) = some (.timedOut false) := by decide +kernel

/-- V-B19 and V-B20. -/
theorem test_waitIrq_timeout : (run (.waitIrq 1 false [1]) (rxOn .s1 [9] S1)).frame.rx.s1 = [] ∧
    result (run (.waitIrq 1 false [1]) S1) = some (.timedOut true) ∧
    status (run (.waitIrq 7 true []) S1) = some .badOperand := by decide +kernel

/-- V-B17: `BUILD_BATCH` gives the frames of program P1. -/
theorem test_buildBatch : buildBatch S1 1 75 [(5, argsP 0x41200000), (17, ⟨some 0x3F800000,
      some 0xBF800000, []⟩)] =
    [.startSubnet 1, .append 1 5 75 (argsP 0x41200000),
      .append 1 17 75 ⟨some 0x3F800000, some 0xBF800000, []⟩, .endSubnet 1] := by decide +kernel

/-! ## Map, parser, accounting (V-R1 to V-R27) -/

def tsWords : List Word16 := [0x0000, 0x0000, 0x0001, 0xE240]

/-- The words of V-R1. -/
def wordsR1 : List Word16 :=
  [0x900A, 0x9098, 0x9000, 0x9000, 0x904E, 0x9020, 0x9016, 0x9178, 0xB000, 0xA000]

def warningOf (c : Cause) (id : I32) (ts : U64) : IlcWarn := IlcWarn.init.raise c id ts

theorem test_mapBuild : (run .mapBuild { S1 with
      mapBuilt := false, frame := { S1.frame with ilcMap := PerSubnet.pure [] } }).frame.ilcMap = map1 := by
  decide +kernel

/-- V-X2 and V-X5. -/
theorem test_mapBuild_refused : status (run .mapBuild State.reset) = some .badState ∧
    status (run .mapBuild { S1 with cfg := { tc1 with plant := { tc1.plant with
      actuatorTable := tc1.plant.actuatorTable ++ [⟨⟨200, 5, -1, -1, -1, .forceActuator⟩, 1, 5⟩] } } }) =
      some .badConfig := by decide +kernel

/-- V-R1. -/
theorem test_parse : let t := run (.parse 1 none) (rxOn .s1 (tsWords ++ wordsR1) S1)
    result t = some (.frames 1) ∧ t.frame.afs[4]? = some ⟨0x41200000, 0, 0, 0, 0x41200000⟩ ∧
      t.log = [.decoded 1 5 76 [.primary 0x41200000] 0x1E240] ∧ t.frame.rxts.s1 = 0x1E240 ∧
      t.frame.expectFa.getD 4 0 = -1 := by decide +kernel

/-- V-R16 (first frame), V-R18, V-R19 (first frame). -/
theorem test_parse_bad_frames :
    (run (.parse 1 none) (rxOn .s1 (tsWords ++ [0x900A, 0x9098, 0x9000, 0x9000, 0x904E, 0x9022, 0x9016,
      0x9178, 0xB000, 0xA000]) S1)).log = [.warning (warningOf .invalidCRC (-1) 0x1E240)] ∧
    (run (.parse 1 none) (rxOn .s1 (tsWords ++ wordsR1.take 8) S1)).log =
      [.warning (warningOf .invalidLength (-1) 0x1E240)] ∧
    (run (.parse 1 none) (rxOn .s1 (tsWords ++ [0x900A, 0x9098, 0x9006, 0xB000, 0xA000]) S1)).log =
      [.warning (warningOf .invalidLength (-1) 0x1E240)] := by decide +kernel

/-- V-R27. -/
theorem test_reconcile :
    let t := run (.reconcile 5) { S1 with frame := { S1.frame with
      expectFa := (S1.frame.expectFa.set 4 2).set 16 (-1), expectHp := S1.frame.expectHp.set .h0 1 } }
    t.log = [.warning (warningOf .responseTimeout 105 5), .warning (warningOf .responseTimeout 117 5),
      .warning (warningOf .responseTimeout 1 5)] ∧ t.frame.anyTimeout = true ∧
      t.frame.expectFa = List.replicate 17 0 := by decide +kernel

/-- V-R26. -/
theorem test_reconcile_none : (run (.reconcile 5) S1).log = [] ∧
    (run (.reconcile 5) S1).frame.anyTimeout = false := by decide +kernel

/-- V-R25. -/
theorem test_validateCrc : rsp (.validateCrc 1 4) (rxOn .s1 (tsWords ++ wordsR1) S1) =
    some ⟨.ok, .verdict .good [0x05, 0x4C, 0x00, 0x00, 0x27, 0x10] 14⟩ := by decide +kernel

/-- V-R25. -/
theorem test_validateCrc_edges :
    rsp (.validateCrc 1 12) (rxOn .s1 (tsWords ++ wordsR1) S1) = some ⟨.ok, .verdict .tooShort [] 14⟩ ∧
    rsp (.validateCrc 1 14) (rxOn .s1 (tsWords ++ wordsR1) S1) = some ⟨.badOperand, .none⟩ := by
  decide +kernel

/-- V-R1's frame as the wire's own instruction; V-R2's at the dual-axis address. -/
theorem test_pneumaticForceStatus :
    (run (.pneumaticForceStatus 1 5 [0x00, 0x00, 0x27, 0x10] 7) S1).frame.afs[4]? =
      some ⟨0x41200000, 0, 0, 0, 0x41200000⟩ ∧
    (run (.pneumaticForceStatus 1 17 [0x00, 0x00, 0x03, 0xE8, 0xFF, 0xFF, 0xFC, 0x18] 7) S1).frame.afs[16]? =
      some ⟨0x3F800000, 0xBF800000, 0, 0xBF800000, 0x3F800000⟩ := by decide +kernel

/-- The answer of program P1 at address 5; V-R14. -/
theorem test_forceDemand :
    (run (.forceDemand 1 5 [0x00, 0x00, 0x25, 0x1C] 7) S1).frame.afs[4]? =
      some ⟨0x41180000, 0, 0, 0, 0x41180000⟩ ∧
    (run (.forceDemand 1 17 [0x00, 0x00, 0x03, 0xE8] 7) S1).log =
      [.warning (warningOf .invalidLength 117 7)] := by decide +kernel

/-- V-R3. -/
theorem test_electromechanicalForceAndStatus :
    let t := run (.electromechanicalForceAndStatus 5 1 [0x00, 0x00, 0x03, 0xE8] 7) S1
    t.frame.hps.h0 = 0x3F800000 ∧ t.frame.expectHp.h0 = -1 := by decide +kernel

/-- V-R4. -/
theorem test_reportServerStatus : (run (.reportServerStatus 5 1 [0x00, 0x00, 0x00, 0x01, 0x00] 7) S1).log =
    [.decoded 5 1 18 [.other "mode" 0, .other "status" 0, .other "faults" 0x0100] 7] := by decide +kernel

/-- V-R5. -/
theorem test_reportServerID : let t := run (.reportServerID 1 5 [0xAA, 0xBB] 7) S1
    t.log = [.decoded 1 5 17 [] 7] ∧ t.frame.expectFa.getD 4 0 = -1 := by decide +kernel

/-- V-R6, V-R7, V-R9. -/
theorem test_exceptionResponse :
    (run (.exceptionResponse 1 5 75 [1] 7) S1).log = [.warning (warningOf .illegalFunction 105 7)] ∧
    (run (.exceptionResponse 1 5 75 [3] 7) S1).log = [.warning (warningOf .illegalDataValue 105 7)] ∧
    (run (.exceptionResponse 1 5 75 [] 7) S1).log = [.warning (warningOf .invalidLength 105 7)] ∧
    (run (.exceptionResponse 1 5 75 [1] 7) S1).frame.expectFa[4]? = some 0 := by decide +kernel

/-- The default table of R129, with `TC1`'s empty updates: whom each of the other functions is
recognised for. -/
theorem test_other_responses_hardpoint :
    [Instr.stepMotor 5 1 [] 7, .readCalibration 5 1 [] 7, .reportLVDT 5 1 [] 7].map
      (fun i => result (run i S1)) = [some (.frames 1), some (.frames 1), some (.frames 0)] := by
  decide +kernel

theorem test_other_responses_actuator :
    [Instr.changeMode 1 5 [] 7, .setBoostValveDCAGains 1 5 [] 7, .readBoostValveDCAGains 1 5 [] 7,
      .setADCScanRate 1 5 [] 7, .setADCOffsetSensitivity 1 5 [] 7, .eraseApplication 1 5 [] 7,
      .writeApplication 1 5 [] 7, .verifyApplication 1 5 [] 7, .resetApplication 1 5 [] 7,
      .reportDCAID 1 5 [] 7, .reportDCAStatus 1 5 [] 7].map (fun i => result (run i S1)) =
      List.replicate 11 (some (.frames 1)) := by decide +kernel

/-! ## Force pipeline (V-F1 to V-F19, P3) -/

/-- The bits of 4.5. -/
def c45 : F32 := 0x40900000

theorem test_fcEnable : (run (.fcEnable 1) S2).force.fc.elevation.state = .enabled ∧
    status (run (.fcEnable 9) S2) = some .badOperand := by decide +kernel

/-- V-F6 and V-F9. -/
theorem test_fcDisable : (run (.fcDisable 3) S2).force.fc.velocity.state = .disabling ∧
    (run (.fcDisable 0) (setC .static .disabled 0 0 [0, 0, 0] S2)).force.fc.static.state = .disabled := by
  decide +kernel

/-- P3 step 2. -/
theorem test_fcApply : (run (.fcApply 0 [0] [0] [fx 5, 0, 0]) S2).force.fc.static.target =
      ⟨[0], [0], [fx 5, 0, 0]⟩ ∧
    (run (.fcApply 0 [0] [0] [fx 5, 0, 0]) S2).force.fc.static.state = .enabled := by decide +kernel

/-- V-F2 and V-F3. -/
theorem test_fcApply_refused : status (run (.fcApply 0 [0] [0] [fx 5, 0]) S2) = some .badOperand ∧
    status (run (.fcApply 0 [0] [0] [0x7FC00000, 0, 0]) S2) = some .badOperand ∧
    status (run (.fcApply 0 [0] [0] [0x7F800000, 0, 0]) S2) = some .badOperand := by decide +kernel

/-- V-F5. -/
theorem test_fcZero : let t := run (.fcZero 0) (setC .static .enabled 0 0 [c45, 0, 0] S2)
    t.force.fc.static.state = .disabling ∧ t.force.fc.static.current = ⟨[0], [0], [c45, 0, 0]⟩ := by
  decide +kernel

/-- P3 step 5: the walk to 5.0 is clipped to 4.5. -/
theorem test_fcUpdate :
    let t := run (.fcUpdate 0)
      ((setC .static .enabled 0 0 [fx 4, 0, 0] S2).setComp .static
        { (setC .static .enabled 0 0 [fx 4, 0, 0] S2).force.fc.static with target := ⟨[0], [0], [fx 5, 0, 0]⟩ });
    t.force.fc.static.preclipped.z = [fx 5, 0, 0] ∧ t.force.fc.static.current.z = [c45, 0, 0] ∧
      t.force.fc.static.clipWarn.z = [true, false, false] ∧
      t.safety.err.code = .forceClipStatic ∧
      t.log = [.clip 0 ⟨[false], [false], [true, false, false]⟩] := by decide +kernel

/-- P3 steps 10 and 11. -/
theorem test_fcUpdate_ramp :
    (run (.fcUpdate 0) (setC .static .disabling 0 0 [c45, 0, 0] S2)).force.fc.static.current.z =
      [0x40200000, 0, 0] ∧
    (run (.fcUpdate 0) (setC .static .disabling 0 0 [0x40200000, 0, 0] S2)).force.fc.static.current.z =
      [0, 0, 0] ∧
    (run (.fcUpdate 0) (setC .static .disabling 0 0 [0x40200000, 0, 0] S2)).force.fc.static.state =
      .disabled := by decide +kernel

/-- P5 step 2. -/
theorem test_updateApplied :
    (run .updateApplied (setC .azimuth .disabling 0 0 [0, 0, 0] S2)).force.fc.azimuth.state = .disabled ∧
    (run .updateApplied (setC .azimuth .disabling 0 0 [0, 0, 0] S2)).force.fc.static.state =
      .initialising := by decide +kernel

/-- V-F11. -/
theorem test_processApplied :
    let t := run .processApplied
      (setC .static .enabled (fx 1) (f32Neg (fx 1)) [fx 3, fx 3, fx 3]
        (setC .elevation .enabled 0 0 [0x3F000000, 0x3E800000, 0x3E000000] (quiet hundred)));
    t.force.fin.applied = ⟨[fx 1], [f32Neg (fx 1)], [0x40600000, 0x40500000, 0x40480000]⟩ ∧
      t.force.fin.secondarySet = [0, fx 1, f32Neg (fx 1)] ∧
      t.force.res = ⟨fx 1, f32Neg (fx 1), 0x411E0000, 0x3E000000, 0xBEC00000, 0, 0x411F9CAE⟩ ∧
      t.safety.err.code = .noFault := by decide +kernel

/-- V-F12: the final clip is latched; the later weight fault is dropped. -/
theorem test_processApplied_clip :
    let t := run .processApplied
      (setC .static .enabled (fx 1) (f32Neg (fx 1)) [fx 3, fx 3, fx 3]
        (setC .elevation .enabled 0 0 [fx 6, 0, 0] (quiet hundred)));
    t.force.fin.preclipped.z = [fx 9, fx 3, fx 3] ∧ t.force.fin.applied.z = [fx 8, fx 3, fx 3] ∧
      t.force.res.fz = fx 15 ∧ t.force.res.my = f32Neg (fx 6) ∧
      t.safety.err.code = .forceClipFinal := by decide +kernel

/-! ## Safety controller (V-S1 to V-S12, P4) -/

def latched (c : FaultCode) (r : List Byte) : State := S2.notify c true r

/-- P4 steps 1 and 2. -/
theorem test_notify : (run (.notify 5 true [0x6D]) S2).safety.err = ⟨.mirrorMoment, [0x6D]⟩ ∧
    (run (.notify 7 true [0x77]) (latched .mirrorMoment [0x6D])).safety.err = ⟨.mirrorMoment, [0x6D]⟩ := by
  decide +kernel

/-- V-S6 and V-S8. -/
theorem test_notify_edges : status (run (.notify 0 true []) S2) = some .badOperand ∧
    status (run (.notify 22 true []) S2) = some .badOperand ∧
    (run (.notify 21 true (List.replicate 40 0x30)) S2).safety.err =
      ⟨.communicationMismatch, List.replicate 32 0x30⟩ := by decide +kernel

/-- V-S1, second call. -/
theorem test_notifyIlcTimeout :
    let t := run .notifyIlcTimeout { S2 with
      frame := { S2.frame with anyTimeout := true }
      safety := { S2.safety with winIlc := [false, false, true] } }
    t.safety.winIlc = [false, true, true] ∧ t.safety.err.code = .ilcCommunicationTimeout := by decide +kernel

/-- V-S3 and V-S5. -/
theorem test_notifyFaFollowingError :
    (run (.notifyFaFollowingError 1 true [0x66]) S2).safety.winFe =
      [[false, false], [false, true], [false, false]] ∧
    (run (.notifyFaFollowingError 1 true [0x66]) S2).safety.err.code = .noFault ∧
    status (run (.notifyFaFollowingError 3 true []) S2) = some .badOperand := by decide +kernel

/-- V-S2. -/
theorem test_notifyHpMeasuredForce :
    (run (.notifyHpMeasuredForce 0 true [0x68]) { S2 with
      safety := { S2.safety with winHpf := S2.safety.winHpf.set .h0 [false, true] } }).safety.err =
        ⟨.hardpointMeasuredForce, [0x68]⟩ ∧
    (run (.notifyHpMeasuredForce 0 false [0x68]) { S2 with
      safety := { S2.safety with winHpf := S2.safety.winHpf.set .h0 [true, true] } }).safety.err.code =
        .noFault := by decide +kernel

/-- V-S4 and V-S5. -/
theorem test_notifyHpAirPressure :
    (run (.notifyHpAirPressure 5 true [0x61]) S2).safety.err = ⟨.hardpointAirPressure, [0x61]⟩ ∧
    (run (.notifyHpAirPressure 5 true [0x61]) S2).safety.winHpa.h5 = [false, true] ∧
    status (run (.notifyHpAirPressure 6 true []) S2) = some .badOperand := by decide +kernel

/-- P4 step 6. -/
theorem test_checkSafety : let t := run (.checkSafety 3) (latched .mirrorWeight [0x77])
    result t = some (.hostState 255) ∧ t.safety.errPub = ⟨.mirrorWeight, [0x77]⟩ ∧
      t.safety.err = ⟨.noFault, []⟩ ∧ t.log = [.errorCode .mirrorWeight [0x77]] := by decide +kernel

/-- V-S9. -/
theorem test_checkSafety_free : run (.checkSafety 7) S2 = { S2 with rsp := some ⟨.ok, .hostState 7⟩ } := by
  decide +kernel

/-- V-S10. -/
theorem test_clearError :
    let s : State := { latched .nearNeighbor [0x72] with
      safety := { (latched .nearNeighbor [0x72]).safety with winIlc := [true, true, true] } }
    (run .clearError s).safety.err = ⟨.noFault, []⟩ ∧
      (run .clearError s).safety.winIlc = [true, true, true] := by decide +kernel

/-- P4 step 4. -/
theorem test_clearErrorCode :
    let s : State := { latched .mirrorMoment [0x6D] with
      safety := { (latched .mirrorMoment [0x6D]).safety with
        errPub := ⟨.mirrorMoment, []⟩, winHpa := PerHp.pure [false, true] }
      force := { S2.force with momentWarnCnt := 2 } }
    (run .clearErrorCode s).safety = S2.safety ∧ (run .clearErrorCode s).force.momentWarnCnt = 0 := by
  decide +kernel

/-- V-S11; `test_start_tc1` has the accepted case. -/
theorem test_settingsLoad_refused :
    status (run (.settingsLoad tc2) (raising 0)) = some .badState ∧
    status (run (.settingsLoad tc2) (latched .mirrorMoment [])) = some .badState ∧
    status (run (.settingsLoad tc1) open1) = some .badState ∧
    safetyOk { tcSafety with winPeriod := ⟨0, 2, 2, 2⟩ } = false ∧
    status (run (.settingsLoad { tc2 with plant := { tc2.plant with nFA := 4 } }) S2) =
      some .badConfig := by decide +kernel

/-! ## Raise and lower (V-L1 to V-L15, V-H1 to V-H7, P5) -/

/-- P5 step 1. -/
theorem test_raiseStart : let t := run (.raiseStart false 0x408F400000000000) S2
    t.raise = { (raising 0).raise with bypass := false } ∧ t.force.fc.elevation.state = .enabled ∧
      t.force.fc.static.state = .initialising ∧ t.force.fc.azimuth.state = .disabling ∧
      t.force.fc.offset.state = .disabling := by decide +kernel

/-- V-L1 and V-L2. -/
theorem test_raiseStart_refused :
    status (run (.raiseStart false 0x7FF8000000000000) S2) = some .badOperand ∧
    status (run (.raiseStart false 0x3FF0000000000000) (raising 0)) = some .badState := by decide +kernel

/-- P5 step 15. -/
theorem test_raiseRunloop : let t := run (.raiseRunloop false) (raising d50)
    result t = some (.bool true) ∧ t.raise.pct = 0x4052C00000000000 ∧
      t.force.fc.static.state = .enabled := by decide +kernel

/-- V-L7. -/
theorem test_raiseRunloop_stall :
    let s : State :=
      { raising d50 with frame := { S2.frame with hps := S2.frame.hps.set .h5 (fx 60) } }
    let t := run (.raiseRunloop false) s
    result t = some (.bool false) ∧ t.raise.pct = d50 ∧ t.log = [.raiseStall] ∧
      (run (.raiseRunloop false) t).log = [.raiseStall] := by decide +kernel

/-- P5 steps 18 and 19. -/
theorem test_raiseCheckComplete :
    (run (.raiseCheckComplete false) (raising hundred)).raise.hpc.h0 = ⟨0, 0, 0, 0⟩ ∧
    result (run (.raiseCheckComplete true) (raising hundred)) = some (.bool false) ∧
    (run (.raiseCheckComplete true) (raising hundred)).raise.hpc.h5 = ⟨0, 0, 1, 1⟩ := by decide +kernel

/-- P5 step 21; V-L15. -/
theorem test_raiseComplete : let t := run .raiseComplete (raising d50)
    t.raise.rstate = .complete ∧ t.raise.pct = hundred ∧ t.raise.deadline = 0x7FF8000000000000 ∧
      Comp.all.map (fun c => (t.force.fc.get c).state) =
        [.enabled, .enabled, .enabled, .disabling, .disabling, .enabled, .enabled, .disabling,
          .disabling] := by decide +kernel

/-- R350, a counter timed out: no balance forces, and the rule's text before the list. -/
theorem test_raiseComplete_note : let t := run .raiseComplete ((raising d50).setHpc .h2 ⟨0, 0, 1, 5⟩)
    t.force.fc.balance.state = S2.force.fc.balance.state ∧
      t.log = [.raiseNote ("hardpoint in-range timeout: ".toList.map (fun c => BitVec.ofNat 8 c.toNat) ++
        (Config.listOpen ++ [0x32] ++ Config.listClose))] := ⟨by decide +kernel, rfl⟩

/-- R381: the numbers of the statuses on the port. -/
theorem test_statusCodes : [Status.ok, .decodeError, .encodeError, .buildOverflow, .badState, .badOperand,
    .notConfigured, .badConfig].map Status.code = [0, 1, 2, 3, 4, 5, 6, 7] ∧
    (run (.getU8 [] 0) State.reset).rspStatus = some 6 := by decide +kernel

/-- V-L4. -/
theorem test_checkTimeout :
    result (run (.checkTimeout 0x4098FE6666666666) (raising d50)) = some (.bool false) ∧
    result (run (.checkTimeout 0x4099000000000000) (raising d50)) = some (.bool true) ∧
    (run (.checkTimeout 0x4099000000000000) (raising d50)).raise.timedOut = true ∧
    (run (.checkTimeout 0x4099000000000000) (raising d50)).safety.err.code = .raiseOperationTimeout := by
  decide +kernel

theorem test_timeout : (run .timeout (lowering d50)).raise.timedOut = true ∧
    (run .timeout (lowering d50)).safety.err.code = .lowerOperationTimeout ∧
    status (run .timeout S2) = some .badState := by decide +kernel

/-- P5 step 7. -/
theorem test_pause : let t := run (.pause 0x4091300000000000) (raising d50)
    t.raise.rstate = .paused ∧ t.raise.remain = 0x407F400000000000 ∧
      t.raise.deadline = 0x7FF8000000000000 := by decide +kernel

/-- P5 step 10. -/
theorem test_resume :
    let t := run (.resume 0x40B3880000000000) (withRaise (raising d50) (fun r =>
      { r with rstate := .paused, remain := 0x407F400000000000, deadline := 0x7FF8000000000000 }));
    t.raise.rstate = .running ∧ t.raise.segStart = 0x40B3880000000000 ∧
      t.raise.deadline = 0x40B57C0000000000 := by decide +kernel

/-- V-L10. -/
theorem test_rlReset : let t := run .rlReset (raising d25)
    t.raise.rstate = .idle ∧ t.raise.pct = d25 ∧ t.raise.deadline = 0x7FF8000000000000 ∧
      t.raise.remain = 0 ∧ t.force = (raising d25).force := by decide +kernel

/-- P5 step 23. -/
theorem test_lowerStart :
    let t := run (.lowerStart 0x40BB580000000000)
      (withRaise S2 (fun r => { r with rstate := .complete, pct := hundred }));
    t.raise = (lowering hundred).raise ∧ t.force.fc.azimuth.state = .disabling := by decide +kernel

/-- V-L14. -/
theorem test_lowerStart_refused :
    status (run (.lowerStart 0x4014000000000000) (lowering d50)) = some .badState := by decide +kernel

/-- P5 steps 25 and 26. -/
theorem test_lowerRunloop : (run .lowerRunloop (lowering hundred)).raise.pct = d50 ∧
    (run .lowerRunloop (lowering hundred)).force.fc.static.state = .disabling ∧
    (run .lowerRunloop (lowering d50)).raise.chase = false := by decide +kernel

/-- P5 step 28. -/
theorem test_lowerCheckComplete : result (run .lowerCheckComplete (lowering 0)) = some (.bool true) ∧
    result (run .lowerCheckComplete (lowering d50)) = some (.bool false) := by decide +kernel

/-- P5 step 29. -/
theorem test_lowerComplete : let t := run .lowerComplete (lowering d50)
    t.raise.rstate = .idle ∧ t.raise.rdir = .lower ∧ t.raise.pct = 0 ∧
      t.force.fc.elevation.state = .disabling := by decide +kernel

def atPct (p : F64) : State := withRaise S2 (fun r => { r with pct := p })

/-- V-L11 and V-L12: 99.5 up by 25, 20 down by 50. -/
theorem test_spInc : (run .spInc (atPct 0x4058E00000000000)).raise.pct = hundred := by decide +kernel

theorem test_spDec : (run .spDec (atPct 0x4034000000000000)).raise.pct = 0 := by decide +kernel

/-- V-L13. -/
theorem test_spZero : (run .spZero (atPct d25)).raise.pct = 0 := by decide +kernel

theorem test_spFill : (run .spFill (atPct d25)).raise.pct = hundred := by decide +kernel

/-- V-L9: filled at 100, not at 99. -/
theorem test_spFilled : result (run .spFilled (atPct hundred)) = some (.bool true) ∧
    result (run .spFilled (atPct 0x4058C00000000000)) = some (.bool false) := by decide +kernel

theorem test_spZeroed : result (run .spZeroed (atPct 0)) = some (.bool true) ∧
    result (run .spZeroed (atPct d25)) = some (.bool false) := by decide +kernel

def withHpc (v : InRangeCounter) : State := S2.setHpc .h0 v

/-- V-H2: a deviation of exactly 1.0 stays in. -/
theorem test_hpcSample : (run (.hpcSample 0 (fx 11)) (withHpc ⟨fx 10, fx 10, 1, 1⟩)).raise.hpc.h0 =
    ⟨fx 10, fx 11, 2, 2⟩ := by decide +kernel

/-- V-H6, third sample; V-H3, sixth sample (frozen). -/
theorem test_hpcSample_window :
    (run (.hpcSample 0 (fx 12)) { withHpc ⟨fx 10, 0x41280000, 2, 2⟩ with
      cfg := { tc2 with raise := { tcRaise with hpcInRange := 3 } } }).raise.hpc.h0 =
      ⟨fx 12, fx 12, 1, 3⟩ ∧
    (run (.hpcSample 0 (fx 20)) (withHpc ⟨fx 20, fx 20, 1, 5⟩)).raise.hpc.h0 = ⟨fx 20, fx 20, 1, 5⟩ := by
  decide +kernel

/-- V-H7. -/
theorem test_hpcReset : (run (.hpcReset 0) (withHpc ⟨fx 10, fx 11, 2, 2⟩)).raise.hpc.h0 = ⟨0, 0, 0, 0⟩ ∧
    status (run (.hpcReset 6) S2) = some .badOperand := by decide +kernel

/-- V-H3 and V-H4: on the last sample `InRange` comes before `TimedOut`. -/
theorem test_hpcStatus : result (run (.hpcStatus 0) (withHpc ⟨fx 20, fx 20, 1, 5⟩)) =
      some (.hpcStatus .timedOut) ∧
    result (run (.hpcStatus 0) (withHpc ⟨fx 15, fx 15, 2, 5⟩)) = some (.hpcStatus .inRange) ∧
    result (run (.hpcStatus 0) (withHpc ⟨fx 10, fx 10, 1, 4⟩)) = some (.hpcStatus .pending) := by
  decide +kernel

/-- V-L8. -/
theorem test_faFeInTol :
    result (run .faFeInTol { S2 with frame := { S2.frame with afs := [⟨0, 0, 0, 0, 0⟩, ⟨0, fx 3, 0, 0, 0⟩,
      ⟨0, 0, 0, 0, 0⟩] } }) = some (.bool false) ∧
    result (run .faFeInTol { S2 with frame := { S2.frame with afs := [⟨0, fx 3, 0, 0, 0⟩, ⟨0, 0, 0, 0, 0⟩,
      ⟨0, 0, 0, 0, 0⟩] } }) = some (.bool true) := by decide +kernel

/-- V-L7. -/
theorem test_hpForcesInTol :
    let s : State :=
      { S2 with frame := { S2.frame with hps := S2.frame.hps.set .h5 (fx 60) } }
    result (run (.hpForcesInTol true) s) = some (.bool false) ∧
      result (run (.hpForcesInTol false) s) = some (.bool true) := by decide +kernel

/-! ## Reset, telemetry, the step (V-X1 to V-X8) -/

/-- V-X7. -/
theorem test_reset : run .reset { raising d50 with log := [.raiseStall] } =
    { State.reset with rsp := some ⟨.ok, .none⟩ } := by decide +kernel

/-- V-X8. -/
theorem test_pullTelemetry : (run (.pullTelemetry 0x4046800000000000) State.reset).elev =
      0x4046800000000000 ∧
    (run (.pullTelemetry 0x4046800000000000) State.reset).elevValid = true := by decide +kernel

/-- V-X1. -/
theorem test_not_configured : run (.getU8 (dataCells [0]) 0) State.reset =
    { State.reset with rsp := some ⟨.notConfigured, .none⟩ } := by decide +kernel

/-- V-X6: the unassigned code 23H. -/
theorem test_unassigned : after (step { S2 with inputs := [.command [0x23]] }) =
    { S2 with rsp := some ⟨.badOperand, .none⟩ } := by decide +kernel

/-- A table word is the next instruction (0x5A is `CLEAR_ERROR_CODE`), and the next step runs it. -/
theorem test_withFetchWord : decodeTableWord 8 0x5A = some .clearErrorCode ∧
    after (step (State.reset.withFetchWord 8 0x5A)) =
      { State.reset with rsp := some ⟨.notConfigured, .none⟩ } := by decide +kernel

/-- A settings record whose bytes are all 0 but the first `nat` (`N_FA`). -/
theorem test_decode_settingsLoad : decodeInput (.command
    (0x5E :: [0, 0, 0, 0, 0, 0, 0, 3] ++ (eCfg cfgAtReset).drop 8)) =
    .ok (.settingsLoad { cfgAtReset with plant := { cfgAtReset.plant with nFA := 3 } }) := by decide +kernel

/-! ## A state and operands that meet the hypotheses of each statement

One theorem for each statement of Certificates/Slice0/Obligations.lean that has hypotheses: all of them
met together by a concrete state and operands, for each clause, at a boundary of its range. -/

def goesOn : Host.Outcome State Fault Refusal → Bool
  | .next _ => true
  | _ => false

theorem next_of {o : Host.Outcome State Fault Refusal} {t : State} (h : goesOn o = true) (e : after o = t) :
    o = .next t := by
  cases o with
  | next s => exact congrArg _ e
  | fault f => cases h
  | refused r => cases h

theorem all_of {α : Type} {l : List α} (p : α → Bool) (b : Bool) (h : l.all (fun x => p x == b) = true) :
    ∀ x, x ∈ l → p x = b := fun x hx => by simpa using List.all_eq_true.1 h x hx

theorem ready_S1 : S1.ready = true := by decide +kernel

theorem ready_S2 : S2.ready = true := by decide +kernel

theorem cfgOk_tc2 : cfgOk tc2 = true := by decide +kernel

theorem witness_StepRunsDecodedInstruction :
    ({ S2 with inputs := [.command [0x5A]] } : State).inputs = .command [0x5A] :: [] ∧
      decodeInput (.command [0x5A]) = .ok .clearErrorCode ∧ S2.inputs = [] := by decide +kernel

/-- A function byte outside the catalogue at a mapped address, the greatest there is. -/
theorem witness_StepOnOtherInputs : S1.ready = true ∧ (0x7F : Byte).toNat < 128 ∧
    FnCode.ofByte 0x7F = none ∧
    (mapGet (S1.frame.ilcMap.get .s1) (5 : Byte).toNat).type ≠ .unknown := by decide +kernel

theorem witness_RoundTrip : wellFormed (.getStr [.directive .delay (2 ^ 64 - 1)] (2 ^ 64 - 1)) = true ∧
    wellFormed (.setI8 [] 0 127) = true ∧ wellFormed .reset = true := by decide +kernel

theorem witness_EveryOperationAnswers :
    exec .mapBuild State.reset = .next { State.reset with rsp := some ⟨.badState, .none⟩ } ∧
      Status.badState ≠ .ok := ⟨next_of (by decide +kernel) (by decide +kernel), by decide +kernel⟩

/-- Nothing loaded; loaded without a map; the unassigned codes next to an assigned one, and the greatest
code. -/
theorem witness_NotConfiguredBeforeSetup : ungated .clearError = false ∧
    (0x0B : Byte).toNat ∉ assignedCodes ∧ (0x82 : Byte).toNat ∉ assignedCodes ∧
    (0xFF : Byte).toNat ∉ assignedCodes ∧ State.reset.cfgLoaded = false ∧
    ({ S1 with mapBuilt := false } : State).cfgLoaded = true ∧
    ({ S1 with mapBuilt := false } : State).mapBuilt = false := by decide +kernel

theorem witness_FrameOfEveryInstruction : exec .clearError S2 = .next (run .clearError S2) ∧
    Part.errPub ∉ writable .clearError ∧ Instr.clearError ≠ .reset :=
  ⟨next_of (by decide +kernel) rfl, by decide +kernel, by decide +kernel⟩

/-- A state in which every invariant holds that is not the reset state: `TC2` loaded, a raise running. -/
def invariantState : State := { raising d25 with inputs := [.command [0x73]] }

/-- It takes a step (0x73 is `SP_FILL`). -/
theorem witness_step : step invariantState = .next (after (step invariantState)) ∧
    (after (step invariantState)).raise.pct = hundred :=
  ⟨next_of (by decide +kernel) rfl, by decide +kernel⟩

theorem witness_ConfigKept : ConfigInv invariantState := ⟨fun _ => rfl, fun _ => cfgOk_tc2⟩

/-- The map of `TC2`, whose actuators own distinct addresses. -/
theorem witness_MapKept : MapInv invariantState := by
  refine ⟨fun n => by cases n <;> decide +kernel, fun n => ?_, (fun h => by cases h), fun n m => ?_⟩
  · have h : ∀ n : Subnet, (invariantState.frame.ilcMap.get n).all (fun c => decide (c.address ≤ 254)) := by
      intro n; cases n <;> decide +kernel
    intro c hc
    simpa using List.all_eq_true.1 (h n) c hc
  · have h : ∀ n m : Subnet, (invariantState.frame.ilcMap.get n).all (fun c =>
        (invariantState.frame.ilcMap.get m).all (fun d =>
          decide (c.entry.actuatorId = d.entry.actuatorId → n = m ∧ c = d))) := by
      intro n m; cases n <;> cases m <;> decide +kernel
    intro c d hc hd
    exact of_decide_eq_true (List.all_eq_true.1 (List.all_eq_true.1 (h n m) c hc) d hd)

/-- An open batch and a closed one. -/
def batchState : State := (open1.setTx .s3 ⟨[.data 3, .data 0, .swTrigger, .triggerIrq], 3, false⟩)

theorem witness_BatchesKept : BatchInv batchState := by
  refine ⟨fun n => ?_, fun n => ?_, fun n => ?_, fun n m => ?_, fun n => ?_⟩
  · cases n
    · exact .inr (.inl ⟨rfl, rfl, [], rfl⟩)
    · exact .inl rfl
    · exact .inr (.inr ⟨rfl, rfl, [], by decide +kernel, rfl⟩)
    · exact .inl rfl
    · exact .inl rfl
  · cases n <;> decide +kernel
  · cases n <;> decide +kernel
  · cases n <;> cases m <;> decide +kernel
  · cases n <;> decide +kernel

theorem witness_SizesKept : ArraySizes invariantState ∧ WindowSizes invariantState := by
  refine ⟨⟨by decide +kernel, by decide +kernel, fun c => ?_, by decide +kernel, by decide +kernel,
    by decide +kernel, by decide +kernel, by decide +kernel⟩,
    by decide +kernel, by decide +kernel, by decide +kernel, fun h => ?_, fun h => ?_, by decide +kernel⟩
  · cases c <;> refine ⟨?_, ?_, ?_, ?_, ?_, ?_⟩ <;> decide +kernel
  · cases h <;> decide +kernel
  · cases h <;> decide +kernel

/-- One cause set, and one component clipped. -/
def rolledState : State :=
  let s := (invariantState.emit .invalidCRC (-1) 7)
  s.setComp .thermal { s.force.fc.get .thermal with
    clipWarn := ⟨[false], [true], [false, false, false]⟩, anyClip := true }

theorem witness_RollUpsKept : RollUpInv rolledState := by
  refine ⟨by decide +kernel, by decide +kernel, fun c => ?_, by decide +kernel⟩
  cases c <;> decide +kernel

theorem witness_LatchKept : LatchInv (latched .mirrorMoment [0x6D]) :=
  ⟨.inr (by decide +kernel), .inl (by decide +kernel)⟩

theorem witness_PercentAndDeadlineKept : PctInv invariantState ∧ DeadlineInv invariantState ∧
    PctInv (atPct hundred) ∧ DeadlineInv S2 := by
  unfold PctInv DeadlineInv
  decide +kernel

theorem witness_ComponentsKept : QuietInv invariantState ∧ FiniteInv invariantState := by
  refine ⟨⟨fun c => ?_, fun c => ?_, fun c => ?_, by decide +kernel⟩, fun c => ?_⟩
  · cases c <;> decide +kernel
  · cases c <;> decide +kernel
  · cases c <;> decide +kernel
  · cases c <;> decide +kernel

/-- Each width at the last position where it fits. -/
theorem witness_FixedWidthWrites : 1 + 1 ≤ (dataCells [0, 0]).length ∧
    0 + 2 ≤ (dataCells [0, 0]).length ∧ 1 + 4 ≤ (dataCells [0, 0, 0, 0, 0]).length ∧
    0 + 8 ≤ (dataCells [0, 0, 0, 0, 0, 0, 0, 0]).length := by decide +kernel

/-- A length with the sign bit; one more than the buffer holds; no room for the length, or for the last
byte of the string; a string that fits exactly. -/
theorem witness_Strings : ([0x61] : List Byte).length < 2 ^ 31 ∧ (0x80000000 : BitVec 32).msb = true ∧
    (0x00000001 : BitVec 32).msb = false ∧ (dataCells []).length < (0x00000001 : BitVec 32).toNat ∧
    (dataCells [0, 0, 0]).length < 0 + 4 ∧
    0 + 4 + ([0x61] : List Byte).length ≤ (dataCells [0, 0, 0, 0, 0]).length ∧
    (dataCells [0, 0, 0, 0]).length < 0 + 4 + ([0x61] : List Byte).length := by decide +kernel

/-- A cell that is no data cell: the last of the prefix, the last of the string. -/
theorem witness_Strings_cells :
    (3 < 0 + 4 ∧ (dataCells [0, 0, 0] ++ [.endOfFrame])[3]? = some .endOfFrame ∧ ∀ b, Cell.endOfFrame ≠ .data b) ∧
    0 < (0x00000001 : BitVec 32).toNat ∧ ([.swTrigger] : List Cell)[0]? = some .swTrigger ∧
    ∀ b, Cell.swTrigger ≠ .data b :=
  ⟨⟨by decide, rfl, fun _ h => Cell.noConfusion h⟩, by decide, rfl, fun _ h => Cell.noConfusion h⟩

theorem witness_Strings_long : 2 ^ 31 ≤ (List.replicate (2 ^ 31) (0 : Byte)).length := by
  rw [List.length_replicate]

/-- One byte short, for each width; a cell that is no data cell inside the buffer. -/
theorem witness_CodecBounds : (Instr.getU32, 4) ∈ fixedReads.map (fun r => (r.1, r.2)) ∧
    (dataCells [0, 0, 0]).length < 0 + 4 ∧
    ([.data 5, .endOfFrame] : List Cell)[1]? = some .endOfFrame ∧ (∀ b, Cell.endOfFrame ≠ .data b) ∧
    (dataCells []).length < 0 + 1 ∧ (dataCells [0]).length < 0 + 2 ∧
    (dataCells [0, 0, 0, 0, 0, 0, 0]).length < 0 + 8 :=
  ⟨by simp [fixedReads], by decide +kernel, rfl, (fun _ h => by cases h), by decide +kernel,
    by decide +kernel, by decide +kernel⟩

theorem witness_CodecRoundTrip :
    exec (.setU16 (dataCells [0, 0]) 0 0xFFFF) S1 =
        .next (S1.respond .ok (.written (dataCells [0xFF, 0xFF]) 2)) ∧
      exec (.setStr (dataCells [0, 0, 0, 0]) 0 []) S1 =
        .next (S1.respond .ok (.written (dataCells [0, 0, 0, 0]) 4)) :=
  ⟨next_of (by decide +kernel) (by decide +kernel), next_of (by decide +kernel) (by decide +kernel)⟩

/-- The shortest body of a frame. -/
theorem witness_CrcDetectsOneByte : (0x05 : Byte) ≠ 0x06 ∧ 2 ≤ ([] ++ (0x05 : Byte) :: [0x4C]).length := by
  decide +kernel

theorem witness_MixedWidthAccess :
    exec (.setU32 (dataCells [0, 0, 0, 0]) 0 0x11223344) S1 =
        .next (S1.respond .ok (.written (dataCells [0x11, 0x22, 0x33, 0x44]) 4)) ∧
      exec (.setF32 (dataCells [0, 0, 0, 0]) 0 0x3F800000) S1 =
        .next (S1.respond .ok (.written (dataCells [0x00, 0x00, 0x80, 0x3F]) 4)) :=
  ⟨next_of (by decide +kernel) (by decide +kernel), next_of (by decide +kernel) (by decide +kernel)⟩

def withTxCap (n : Nat) (s : State) : State :=
  { s with cfg := { s.cfg with frame := { s.cfg.frame with txCap := n } } }

def noneOpen (s : State) : Prop := ∀ n, (s.frame.tx.get n).opened = false

theorem noneOpen_S1 : noneOpen S1 := fun n => by cases n <;> rfl

theorem noneOpen_S2 : noneOpen S2 := fun n => by cases n <;> rfl

/-- Subnet bytes 0 and 6; another batch open; none open with a capacity of 3 and of 4 cells. -/
theorem witness_StartSubnet : (0 : Byte).toNat = 0 ∧ 5 < (6 : Byte).toNat ∧
    (Subnet.s1 ≠ .s2 ∧ (open1.frame.tx.get .s1).opened = true) ∧ noneOpen (withTxCap 3 S1) ∧
    (withTxCap 3 S1).cfg.frame.txCap < 4 ∧ 4 ≤ (withTxCap 4 S1).cfg.frame.txCap :=
  ⟨rfl, by decide +kernel, ⟨by decide +kernel, rfl⟩, fun n => by cases n <;> rfl, by decide +kernel,
    by decide +kernel⟩

/-- The refused operands, the accepted ones at the exact capacity and one cell short of it. -/
theorem witness_Append : (open1.frame.tx.get .s1).opened = true ∧ (S1.frame.tx.get .s1).opened = false ∧
    (255 : Byte).toNat = 255 ∧ 128 ≤ (128 : Byte).toNat ∧
    (mapGet (open1.frame.ilcMap.get .s1) (9 : Byte).toNat).type = .unknown ∧
    recognised tc1 .forceActuator 66 = none ∧ (5 : Byte).toNat ≠ 255 ∧
    (mapGet (open1.frame.ilcMap.get .s1) (5 : Byte).toNat).type = .forceActuator ∧
    ⟨.forceActuator, .forceDemand⟩ ∈ tc1.frame.recognised ∧
    encodeParams .tc .forceDemand ⟨105, 4, -1, -1, -1, .forceActuator⟩ .single noArgs = none ∧
    encodeParams .tc .forceDemand ⟨105, 4, -1, -1, -1, .forceActuator⟩ .single (argsP 0x41200000) =
      some [0x00, 0x00, 0x27, 0x10] ∧
    (withTxCap 13 open1).cfg.frame.txCap < (open1.frame.tx.get .s1).len + 4 + 7 ∧
    (open1.frame.tx.get .s1).len + 4 + 7 ≤ (withTxCap 14 open1).cfg.frame.txCap ∧
    (encodeParams .tc .forceDemand ⟨117, 16, 0, -1, 0, .forceActuator⟩ .dual
      ⟨some 0x3F800000, some 0xBF800000, []⟩).isSome = true ∧
    FnCode.reportServerID ≠ .forceDemand ∧ FnCode.reportServerID ≠ .pneumaticForceStatus := by decide +kernel

/-- `L` of 255 and of 256 cells; a batch open, none yet, closed; draws at `rxCap` and one longer. -/
theorem witness_CloseSendWait : (S1.frame.tx.get .s1).opened = false ∧ (S1.frame.tx.get .s1).len = 0 ∧
    (open1.frame.tx.get .s1).opened = true ∧
    (TxBatch.len ⟨batchHeader .s1 ++ List.replicate 255 (.data 0), 3, true⟩) - 3 ≤ 255 ∧
    255 < (TxBatch.len ⟨batchHeader .s1 ++ List.replicate 256 (.data 0), 3, true⟩) - 3 ∧
    (batchState.frame.tx.get .s3).opened = false ∧ 0 < (batchState.frame.tx.get .s3).len ∧
    (List.replicate 512 (0 : Word16)).length ≤ S1.cfg.frame.rxCap ∧
    S1.cfg.frame.rxCap < (List.replicate 513 (0 : Word16)).length := by decide +kernel

theorem tableOk_tc1 : tableOk tc1.plant.actuatorTable := by
  unfold tableOk
  decide +kernel

/-- Not loaded, a batch open, a raise running or paused, a fault latched; idle with a good table; idle
with an address twice. -/
theorem witness_MapBuild : State.reset.cfgLoaded = false ∧ (open1.frame.tx.get .s1).opened = true ∧
    (raising 0).raise.rstate = .running ∧ (latched .mirrorMoment []).safety.err.code ≠ .noFault ∧
    S1.cfgLoaded = true ∧ noneOpen S1 ∧ S1.raise.rstate = .idle ∧ S1.safety.err.code = .noFault ∧
    ¬ tableOk (tc1.plant.actuatorTable ++ tc1.plant.actuatorTable) ∧ tableOk S1.cfg.plant.actuatorTable :=
  ⟨rfl, rfl, rfl, by decide +kernel, rfl, noneOpen_S1, rfl, rfl,
    by unfold tableOk; decide +kernel, tableOk_tc1⟩

/-- `TC1` has rows of single-axis and of dual-axis actuators, and of a hardpoint. -/
theorem witness_AcceptedConfigIsWellFormed : cfgOk tc1 = true ∧ cfgOk tc2 = true ∧
    tc1.plant.actuatorTable.map (fun r => r.entry.type) = [.forceActuator, .forceActuator, .hardpoint] ∧
    tc1.plant.orientation[4]? = some .singleAxis := by decide +kernel

/-- A single-axis actuator with a secondary index is refused (R91). -/
theorem test_cfg_secondary : cfgOk { tc1 with plant := { tc1.plant with
    actuatorTable := [⟨⟨105, 4, 0, -1, -1, .forceActuator⟩, 1, 5⟩] } } = false := by decide +kernel

/-- A frame of three words and of four, the last without a delimiter, the position past the end. -/
theorem witness_ValidateCrc : 5 < (6 : Byte).toNat ∧
    (∀ x, x ∈ wordsR1.take 8 → (classify tc1 x).isDelim = false) ∧
    (∀ x, x ∈ [(0xB000 : Word16), 0xB123] → (classify tc1 x).isDelim = true) ∧
    (∀ x, ([0xA000] : List Word16).head? = some x → (classify tc1 x).isDelim = false) ∧
    ((wordsR1.take 3).map (rxDataByte .tc)).length < 4 ∧
    (wordsR1.take 8).map (rxDataByte .tc) = [0x05, 0x4C, 0x00, 0x00, 0x27, 0x10] ++ [0x0B, 0xBC] ∧
    (rxOn .s1 wordsR1 S1).frame.rx.get .s1 = [] ++ wordsR1.take 8 ++ [0xB000] ++ [0xA000] ∧
    (rxOn .s1 (wordsR1.take 8) S1).frame.rx.get .s1 = [] ++ wordsR1.take 8 ++ [] ++ [] ∧
    wordsR1.take 8 ≠ [] ∧ ((S1.frame.rx.get .s1).length ≤ 0) := by
  refine ⟨by decide, all_of _ _ (by decide +kernel), all_of _ _ (by decide +kernel), ?_, by decide +kernel,
    by decide +kernel, by decide +kernel, by decide +kernel, by decide +kernel, by decide +kernel⟩
  intro x h
  obtain rfl : (0xA000 : Word16) = x := by simpa using h
  decide +kernel

/-- A batch of a frame without end marker (V-R22), a frame with one, and a cut-off word. -/
theorem witness_ParseFrameByFrame : (0 : Byte).toNat = 0 ∧ S1.frame.rx.get .s1 = [] ∧
    ((rxOn .s1 [1, 2, 3] S1).frame.rx.get .s1 ≠ [] ∧ ((rxOn .s1 [1, 2, 3] S1).frame.rx.get .s1).length < 4) ∧
    (rxOn .s1 (tsWords ++ wordsR1.take 8 ++ [0xB123, 0xB456] ++ wordsR1 ++ [0x900A]) S1).frame.rx.get .s1 =
      0x0000 :: 0x0000 :: 0x0001 :: 0xE240 ::
        ([(wordsR1.take 8, [(0xB123 : Word16), 0xB456]), (wordsR1.take 8, [0xB000, 0xA000])].flatMap
          (fun f => f.1 ++ f.2) ++ [0x900A]) ∧
    rxFrames tc1 [(wordsR1.take 8, [0xB123, 0xB456]), (wordsR1.take 8, [0xB000, 0xA000])] [0x900A] := by
  refine ⟨rfl, rfl, by decide +kernel, by decide +kernel,
    all_of _ _ (by decide +kernel), ⟨[0xB123, 0xB456], [], rfl, by decide, all_of _ _ (by decide +kernel),
      .inr ⟨rfl, ?_⟩⟩,
    all_of _ _ (by decide +kernel), ⟨[0xB000], [0xA000], rfl, by decide, all_of _ _ (by decide +kernel),
      .inl ⟨_, rfl, by decide +kernel⟩⟩, all_of _ _ (by decide +kernel)⟩
  intro x h
  obtain rfl : (0x900A : Word16) = x := by simpa [wordsR1] using h
  decide +kernel

/-- Two buffers with a frame each. -/
theorem witness_ParsesCommute : let s := rxOn .s5 (tsWords ++ [0x9002, 0x9086, 0x9000, 0x9000, 0x9006,
      0x91D0, 0x9088, 0x9176, 0xB000, 0xA000]) (rxOn .s1 (tsWords ++ wordsR1) S1);
    Subnet.s1 ≠ .s5 ∧
    ((s.frame.ilcMap.get .s1).all (fun c => (s.frame.ilcMap.get .s5).all (fun d =>
      c.entry.type != d.entry.type || c.entry.dataIndex != d.entry.dataIndex)) = true) ∧
    exec (.parse 1 none) s = .next (run (.parse 1 none) s) ∧
    exec (.parse 5 none) (run (.parse 1 none) s) = .next (run (.parse 5 none) (run (.parse 1 none) s)) :=
  ⟨by decide +kernel, by decide +kernel, next_of (by decide +kernel) rfl, next_of (by decide +kernel) rfl⟩

/-- No subnet, no address, no routine, a wrong length. -/
theorem witness_FrameWarnings : 5 < (6 : Byte).toNat ∧
    (mapGet (S1.frame.ilcMap.get .s1) (9 : Byte).toNat).type = .unknown ∧
    (mapGet (S1.frame.ilcMap.get .s5) (1 : Byte).toNat).type = .hardpoint ∧
    ⟨.hardpoint, .forceDemand⟩ ∉ tc1.frame.recognised ∧
    ⟨.forceActuator, .forceDemand⟩ ∈ tc1.frame.recognised ∧
    decodePayload .tc .forceActuator .forceDemand (axisOf 17) [0, 0, 3, 0xE8] = none ∧
    (∃ r, r ∈ allResponses 1 17 [0, 0, 3, 0xE8] 7 ∧ r.2 = .forceDemand) :=
  ⟨by decide +kernel, by decide +kernel, by decide +kernel, by decide +kernel, by decide +kernel,
    by decide +kernel,
    ⟨(.forceDemand 1 17 [0, 0, 3, 0xE8] 7, .forceDemand), by simp [allResponses, forceResponses], rfl⟩⟩

theorem witness_PlainResponses : (mapGet (S1.frame.ilcMap.get .s1) (5 : Byte).toNat).type ≠ .unknown ∧
    (Instr.reportServerID 1 5 [0xAA, 0xBB] 7, FnCode.reportServerID) ∈ plainResponses 1 5 [0xAA, 0xBB] 7 ∧
    ⟨.forceActuator, .reportServerID⟩ ∈ tc1.frame.recognised ∧
    decodePayload .tc .forceActuator .reportServerID (axisOf 5) [0xAA, 0xBB] = some [] := by decide +kernel

/-- Address 16, the last single-axis one, and 17, the first dual-axis one. -/
theorem witness_ForceResponses : indexOf (4 : I32) = some 4 ∧ (16 : Byte).toNat ≤ 16 ∧ 16 < (17 : Byte).toNat ∧
    ⟨.forceActuator, .pneumaticForceStatus⟩ ∈ tc1.frame.recognised ∧
    decodePayload .tc .forceActuator .pneumaticForceStatus (axisOf 16) [0, 0, 0x27, 0x10] =
      some [.primary 0x41200000] ∧
    (decodePayload .tc .forceActuator .pneumaticForceStatus (axisOf 17)
      [0, 0, 0x03, 0xE8, 0xFF, 0xFF, 0xFC, 0x18] = some [.primary 0x3F800000, .secondary 0xBF800000]) ∧
    ⟨.hardpoint, .electromechanicalForceAndStatus⟩ ∈ tc1.frame.recognised ∧
    decodePayload .tc .hardpoint .electromechanicalForceAndStatus (axisOf 1) [0, 0, 0x03, 0xE8] =
      some [.hpForce 0x3F800000] ∧
    Hp.ofIndex 5 = some .h5 ∧ Hp.ofIndex 6 = none ∧ indexOf (-1 : I32) = none := by decide +kernel

theorem witness_ExceptionResponses : (mapGet (S1.frame.ilcMap.get .s1) (5 : Byte).toNat).type ≠ .unknown ∧
    S1.cfg.frame.excDecrements = false ∧
    ({ tcFrame with excDecrements := true } : FrameCfg).excDecrements = true ∧
    ([] : List Byte).length ≠ 1 ∧ ([1, 2] : List Byte).length ≠ 1 := by decide +kernel

/-- Component 9, the four states, arrays of the right lengths, one array one element short, a NaN. -/
theorem witness_ComponentOperations : 8 < (9 : Byte).toNat ∧
    (S2.force.fc.get .static).state = .initialising ∧
    ((setC .static .enabled 0 0 [0, 0, 0] S2).force.fc.get .static).state = .enabled ∧
    ((setC .static .disabling 0 0 [0, 0, 0] S2).force.fc.get .static).state = .disabling ∧
    ((quiet 0).force.fc.get .static).state = .disabled ∧
    ([0] : List F32).length = S2.cfg.plant.nX ∧ ([0] : List F32).length = S2.cfg.plant.nY ∧
    ([0, 0, 0x7F7FFFFF] : List F32).length = S2.cfg.plant.nFA ∧
    (∀ q, q ∈ ([0] : List F32) ++ [0] ++ [0, 0, 0x7F7FFFFF] → f32IsFinite q = true) ∧
    ([0, 0] : List F32).length ≠ S2.cfg.plant.nFA ∧ f32IsFinite 0x7F800000 = false :=
  ⟨by decide, rfl, rfl, rfl, rfl, rfl, rfl, rfl, all_of _ _ (by decide +kernel), by decide,
    by decide +kernel⟩

/-- Disabled; at the end of the ramp; walking, with a clip. -/
theorem witness_FcUpdate : 8 < (9 : Byte).toNat ∧
    ((quiet 0).force.fc.get .static).state = .disabled ∧
    (let s := setC .static .disabling 0 0 [0x40200000, 0, 0] S2
    let v := s.force.fc.get .static
    let walked := Tri.zipWith (fun x t => f32Step x t (s.cfg.force.maxRate.get .static)) v.current v.target
    v.state = .disabling ∧ walked.all (fun x => f32Le (f32Abs x) s.cfg.force.nearZeroEps) = true) ∧
    (let s := setC .static .disabling 0 0 [c45, 0, 0] S2
    let v := s.force.fc.get .static
    let walked := Tri.zipWith (fun x t => f32Step x t (s.cfg.force.maxRate.get .static)) v.current v.target
    v.state = .disabling ∧ walked.all (fun x => f32Le (f32Abs x) s.cfg.force.nearZeroEps) = false) := by
  decide +kernel

theorem witness_ProcessApplied : S2.ready = true ∧ S2.elevValid = false ∧ (quiet hundred).ready = true ∧
    (quiet hundred).elevValid = true := by decide +kernel

theorem witness_SumByElement : ArraySizes invariantState ∧ 0 < invariantState.cfg.plant.nX ∧
    0 < invariantState.cfg.plant.nY ∧ 2 < invariantState.cfg.plant.nFA :=
  ⟨witness_SizesKept.1, by decide +kernel, by decide +kernel, by decide +kernel⟩

/-- A target at exactly the rate, above and below; a value at a limit. -/
theorem witness_StepAndClamp : f32IsFinite (fx 3) = true ∧ f32IsFinite (fx 5) = true ∧
    f32IsFinite (fx 2) = true ∧ f32Lt 0 (fx 2) = true ∧
    f32Le (f32Abs (f32Sub (fx 5) (fx 3))) (fx 2) = true ∧ f32Le (fx 3) (fx 5) = true ∧
    f32Le (f32Neg (fx 3)) (fx 5) = true ∧ f32IsNaN (fx 8) = false ∧
    f32Le (f32Neg (fx 8)) (fx 8) = true ∧ f32Le (f32Neg (fx 8)) (fx 8) = true ∧
    f32Le (fx 8) (fx 8) = true := by decide +kernel

/-- Codes 0 and 22; the last code, enabled, with the latch free; the three reasons to write nothing. -/
theorem witness_NotifyLatches : (0 : Byte).toNat = 0 ∧ 21 < (22 : Byte).toNat ∧
    FaultCode.communicationMismatch ≠ .noFault ∧
    FaultCode.communicationMismatch ∈ S2.cfg.safety.faultEnabled ∧ S2.safety.err.code = .noFault ∧
    FaultCode.noFault ≠ FaultCode.ilcCommunicationTimeout ∧
    FaultCode.nearNeighbor ∉ ({ tcSafety with faultEnabled := [] } : SafetyCfg).faultEnabled ∧
    (latched .mirrorMoment []).safety.err.code ≠ .noFault := by decide +kernel

theorem witness_FirstFaultWins : ∀ p, p ∈ [(FaultCode.mirrorMoment, true, ([] : List Byte)),
    (.mirrorWeight, true, [])] → p.1 ≠ .noFault := by decide +kernel

theorem witness_LatchHeldUntilCleared : freesLatch (.notify 7 true []) = false ∧
    (latched .mirrorMoment []).safety.err.code ≠ .noFault ∧
    exec (.notify 7 true []) (latched .mirrorMoment []) =
      .next (run (.notify 7 true []) (latched .mirrorMoment [])) :=
  ⟨rfl, by decide +kernel, next_of (by decide +kernel) rfl⟩

/-- The first actuator index out of range, and the last inside; hardpoint 6. -/
theorem witness_WindowedNotifiers : S2.cfg.plant.nFA ≤ 3 ∧ 2 < S2.cfg.plant.nFA ∧
    2 < S2.safety.winFe.length ∧ 5 < (6 : Byte).toNat := by decide +kernel

theorem witness_WindowHoldsLastSamples : 1 ≤ 2 ∧ 1 ≤ 3 ∧ S2.safety.winIlc = List.replicate 3 false ∧
    (2 < S2.cfg.plant.nFA ∧ S2.safety.winFe[2]? = some (List.replicate 2 false)) ∧
    S2.safety.winHpf.get .h0 = List.replicate 2 false ∧
    S2.safety.winHpa.get .h5 = List.replicate 2 false := by decide +kernel

theorem witness_CheckSafetyAndClears : S2.safety.err.code = .noFault ∧
    (latched .mirrorMoment []).safety.err.code ≠ .noFault := by decide +kernel

theorem witness_SettingsLoad : (open1.frame.tx.get .s1).opened = true ∧
    (raising 0).raise.rstate = .running ∧ (latched .mirrorMoment []).safety.err.code ≠ .noFault ∧
    noneOpen S2 ∧ S2.raise.rstate = .idle ∧ S2.safety.err.code = .noFault ∧ cfgOk cfgAtReset = false ∧
    cfgOk tc2 = true :=
  ⟨rfl, rfl, by decide +kernel, noneOpen_S2, rfl, rfl, by decide +kernel, cfgOk_tc2⟩

def paused : State :=
  withRaise (raising d50) (fun r => { r with rstate := .paused, deadline := 0x7FF8000000000000 })

theorem witness_RaiseTransitions : exec .timeout (raising d25) = .next (run .timeout (raising d25)) ∧
    (run .timeout (raising d25)).rsp = some ⟨.ok, .none⟩ :=
  ⟨next_of (by decide +kernel) rfl, by decide +kernel⟩

/-- Refused: a raise running; a lowering running, a lowering paused. Accepted: idle, in the middle of a
raise. The greatest finite time, and infinity. -/
theorem witness_RaiseAndLowerStart : (raising 0).raise.rstate ≠ .idle ∧
    (lowering 0).raise.rstate = .running ∧ (lowering 0).raise.rdir = .lower ∧ S2.raise.rstate = .idle ∧
    (raising 0).raise.rdir = .raise ∧
    f64IsFinite 0x7FEFFFFFFFFFFFFF = true ∧ f64IsFinite 0x7FF0000000000000 = false := by decide +kernel

/-- Not raising; filled at exactly 100; not filled, with the tolerances held and with one broken. -/
theorem witness_RaiseRunloop : S2.raise.rstate ≠ .running ∧ (lowering 0).raise.rdir ≠ .raise ∧
    (raising d50).raise.rstate = .running ∧ (raising d50).raise.rdir = .raise ∧
    f64Le f64Hundred (raising hundred).raise.pct = true ∧
    f64Le f64Hundred (raising 0x4058C00000000000).raise.pct = false ∧
    (hpForcesOk (raising d50) true && faFeOk (raising d50)) = true ∧
    (let s : State := { raising d50 with frame := { S2.frame with hps := S2.frame.hps.set .h5 (fx 60) } }
    (hpForcesOk s true && faFeOk s) = false) := by decide +kernel

theorem witness_RunloopsAreMonotone : ConfigInv (raising d50) ∧ PctInv (raising d50) ∧
    exec (.raiseRunloop false) (raising d50) = .next (run (.raiseRunloop false) (raising d50)) ∧
    ConfigInv (lowering d50) ∧ PctInv (lowering d50) ∧
    exec .lowerRunloop (lowering d50) = .next (run .lowerRunloop (lowering d50)) :=
  have pct : PctInv (raising d50) := by unfold PctInv; decide +kernel
  have pct' : PctInv (lowering d50) := by unfold PctInv; decide +kernel
  ⟨⟨fun _ => rfl, fun _ => cfgOk_tc2⟩, pct, next_of (by decide +kernel) rfl,
    ⟨fun _ => rfl, fun _ => cfgOk_tc2⟩, pct', next_of (by decide +kernel) rfl⟩

theorem witness_MoveToReferenceOnce : (raising d50).raise.rstate = .running ∧
    (raising d50).raise.rdir = .raise ∧ pctFilled (raising d50).raise.pct = false ∧
    pctFilled (runs [.raiseRunloop false, .raiseRunloop false] (raising d50)).raise.pct = true ∧
    (raising d50).raise.bypass = false := by decide +kernel

/-- Not raising; not filled, filled; no in-range counter timed out, and one that did. -/
theorem witness_RaiseEnd : paused.raise.rstate ≠ .running ∧ (lowering 0).raise.rdir ≠ .raise ∧
    (raising hundred).raise.rstate = .running ∧
    f64Le f64Hundred (raising d50).raise.pct = false ∧
    f64Le f64Hundred (raising hundred).raise.pct = true ∧
    Hp.all.filter (fun h => ((raising d50).raise.hpc.get h).status tcRaise == .timedOut) = [] ∧
    Hp.all.filter (fun h => (((raising d50).setHpc .h2 ⟨0, 0, 1, 5⟩).raise.hpc.get h).status tcRaise ==
      .timedOut) = [.h2] := by decide +kernel

/-- Neither running nor paused; just before the deadline, exactly at it, and with the deadline off. -/
theorem witness_TimeoutPauseResumeReset : S2.raise.rstate = .idle ∧ paused.raise.rstate ≠ .running ∧
    (raising d50).raise.rstate ≠ .paused ∧
    (!f64IsNaN (raising d50).raise.deadline &&
      f64Le (raising d50).raise.deadline 0x4098FE6666666666) = false ∧
    (!f64IsNaN (raising d50).raise.deadline &&
      f64Le (raising d50).raise.deadline 0x4099000000000000) = true ∧
    f64IsNaN paused.raise.deadline = true ∧ (raising d50).raise.rstate = .running ∧
    paused.raise.rstate = .paused := by decide +kernel

/-- Not lowering; zeroed at exactly 0; not zeroed, with the tolerances held and with one broken. -/
theorem witness_Lowering : S2.raise.rstate ≠ .running ∧ (raising 0).raise.rdir ≠ .lower ∧
    (lowering d50).raise.rstate = .running ∧ (lowering d50).raise.rdir = .lower ∧
    f64Le (lowering 0).raise.pct 0 = true ∧ f64Le (lowering d25).raise.pct 0 = false ∧
    (hpForcesOk (lowering d25) false && faFeOk (lowering d25)) = true ∧
    (let s : State := { lowering d25 with frame := { S2.frame with hps := S2.frame.hps.set .h5 (fx 90) } }
    (hpForcesOk s false && faFeOk s) = false) := by decide +kernel

/-- Hardpoint 6; a counter at `hpcInRange`, at `hpcMax`, one short of both; a first sample, one at the
edge of the band, one outside. -/
theorem witness_InRangeCounters : 5 < (6 : Byte).toNat ∧
    tcRaise.hpcInRange ≤ ((withHpc ⟨0, 0, 2, 4⟩).raise.hpc.get .h0).run ∧
    tcRaise.hpcMax ≤ ((withHpc ⟨0, 0, 1, 5⟩).raise.hpc.get .h0).total ∧
    ((withHpc ⟨0, 0, 1, 4⟩).raise.hpc.get .h0).run < tcRaise.hpcInRange ∧
    ((withHpc ⟨0, 0, 1, 4⟩).raise.hpc.get .h0).total < tcRaise.hpcMax ∧
    (S2.raise.hpc.get .h0).run = 0 ∧
    f32Le (f32Abs (f32Sub (fx 11) (f32Div (f32Add (fx 10) (fx 10)) (f32OfNat 2)))) tcRaise.hpcBand = true ∧
    f32Le (f32Abs (f32Sub (fx 12) (f32Div (f32Add (fx 10) (fx 10)) (f32OfNat 2)))) tcRaise.hpcBand =
      false := by decide +kernel

/-- Nothing but a configured block is asked for by `FixedWidthReads`, `Reconcile`,
`UpdateAppliedIsSequence` and `SupportPercentAndTolerances`. -/
theorem witness_ready_only : S1.ready = true ∧ S2.ready = true := ⟨ready_S1, ready_S2⟩

end Sys2Proof.Tests
end

/-! # What every instruction may do to the configuration, and how it ends (spec/00_scope.md)

`Ends` says once how an operation ends (R12): `OK`, or refused with nothing but the response written.
One lemma per `exec…` function ties it to the model; O5 and O8 are read off it. -/

namespace Sys2Proof.Machine

/-! ## The configuration registers -/

/-- The registers `CFG`, `CFG_LOADED`, `MAP_BUILT` (R64). -/
def State.config (s : State) : Cfg × Bool × Bool := (s.cfg, s.cfgLoaded, s.mapBuilt)

/-- A state with the configuration registers of `s`. -/
abbrev State.sameConfig (s u : State) : Prop := u.config = s.config

/-! ### Each update of the state and the configuration registers -/

@[simp] theorem State.respond_config (s : State) (st : Status) (d : RspData) :
    (s.respond st d).config = s.config := rfl
@[simp] theorem State.logEvent_config (s : State) (e : Event) : (s.logEvent e).config = s.config := rfl
@[simp] theorem State.emit_config (s : State) (c : Cause) (a : I32) (ts : U64) :
    (s.emit c a ts).config = s.config := rfl
@[simp] theorem State.bumpExpect_config (s : State) (e : IlcEntry) (d : I32) :
    (s.bumpExpect e d).config = s.config := rfl
@[simp] theorem State.setTx_config (s : State) (n : Subnet) (b : TxBatch) :
    (s.setTx n b).config = s.config := rfl
@[simp] theorem State.setRx_config (s : State) (n : Subnet) (w : List Word16) :
    (s.setRx n w).config = s.config := rfl
@[simp] theorem State.setRxts_config (s : State) (n : Subnet) (ts : U64) :
    (s.setRxts n ts).config = s.config := rfl
@[simp] theorem State.setAnyTimeout_config (s : State) (b : Bool) :
    (s.setAnyTimeout b).config = s.config := rfl
@[simp] theorem State.setComp_config (s : State) (c : Comp) (v : Component) :
    (s.setComp c v).config = s.config := rfl
@[simp] theorem State.enableComp_config (s : State) (c : Comp) : (s.enableComp c).config = s.config := rfl
@[simp] theorem State.disableComp_config (s : State) (c : Comp) : (s.disableComp c).config = s.config := rfl
@[simp] theorem State.setFin_config (s : State) (v : FinalStage) : (s.setFin v).config = s.config := rfl
@[simp] theorem State.setMomentCount_config (s : State) (n : Nat) :
    (s.setMomentCount n).config = s.config := rfl
@[simp] theorem State.computeResultant_config (s : State) : s.computeResultant.config = s.config := rfl
@[simp] theorem State.setRaise_config (s : State) (u : RaiseUnit) : (s.setRaise u).config = s.config := rfl
@[simp] theorem State.setPct_config (s : State) (v : F64) : (s.setPct v).config = s.config := rfl
@[simp] theorem State.setHpc_config (s : State) (h : Hp) (v : InRangeCounter) :
    (s.setHpc h v).config = s.config := rfl
@[simp] theorem State.pushIlc_config (s : State) (b : Bool) : (s.pushIlc b).config = s.config := rfl
@[simp] theorem State.pushFe_config (s : State) (i : Nat) (b : Bool) : (s.pushFe i b).config = s.config := rfl
@[simp] theorem State.pushHpf_config (s : State) (h : Hp) (b : Bool) :
    (s.pushHpf h b).config = s.config := rfl
@[simp] theorem State.pushHpa_config (s : State) (h : Hp) (b : Bool) :
    (s.pushHpa h b).config = s.config := rfl
@[simp] theorem State.clearLatch_config (s : State) : s.clearLatch.config = s.config := rfl
@[simp] theorem State.enterFault_config (s : State) : s.enterFault.config = s.config := rfl
@[simp] theorem State.clearFaults_config (s : State) : s.clearFaults.config = s.config := rfl
@[simp] theorem State.notify_config (s : State) (c : FaultCode) (b : Bool) (r : List Byte) :
    (s.notify c b r).config = s.config := by simp [State.config]
@[simp] theorem State.logClip_config (s : State) (k : Nat) (t : Tri Bool) :
    (s.logClip k t).config = s.config := by simp [State.config]
@[simp] theorem State.holdAir_config (s : State) : s.holdAir.config = s.config := by simp [State.config]
@[simp] theorem State.stall_config (s : State) : s.stall.config = s.config := by simp [State.config]

/-- A fold of updates that each keep the configuration registers keeps them. -/
theorem foldl_config {α : Type} {f : State → α → State} (hf : ∀ s a, (f s a).config = s.config)
    (l : List α) (s : State) : (l.foldl f s).config = s.config := by
  induction l generalizing s with
  | nil => rfl
  | cons a r ih => rw [List.foldl_cons, ih, hf]

/-! ### The composed operations -/

@[simp] theorem State.disableComps_config (s : State) (cs : List Comp) :
    (s.disableComps cs).config = s.config := foldl_config State.disableComp_config cs s

@[simp] theorem State.enableComps_config (s : State) (cs : List Comp) :
    (s.enableComps cs).config = s.config := foldl_config State.enableComp_config cs s

@[simp] theorem State.updateComp_config (s : State) (c : Comp) : (s.updateComp c).config = s.config := by
  rcases updateComp_cases s c with ⟨_, h⟩ | ⟨_, _, h⟩ | ⟨_, _, h⟩
  · rw [h]
  · simp [h]
  · simp [h, State.postUpdate]

@[simp] theorem State.updateActive_config (s : State) (c : Comp) : (s.updateActive c).config = s.config := by
  unfold State.updateActive
  split
  · exact State.updateComp_config s c
  · rfl

@[simp] theorem State.processForces_config (s : State) : s.processForces.config = s.config := by
  simp [State.processForces, State.checkFar, State.checkWeight, State.checkNear, State.checkMoments,
    State.convert, State.finalClip, State.sumForces]

@[simp] theorem State.timeOut_config (s : State) : s.timeOut.config = s.config := by simp [State.timeOut]

@[simp] theorem State.progressUp_config (s : State) : s.progressUp.config = s.config := by
  unfold State.progressUp
  dsimp only
  split <;> simp

@[simp] theorem State.progressDown_config (s : State) : s.progressDown.config = s.config := by
  unfold State.progressDown
  dsimp only
  split <;> simp

@[simp] theorem State.raiseLoop_config (s : State) (w : Bool) : (s.raiseLoop w).1.config = s.config := by
  unfold State.raiseLoop
  dsimp only
  split
  · rfl
  · split
    · simp
    · split <;> simp [State.endAirWait]

@[simp] theorem State.lowerLoop_config (s : State) : s.lowerLoop.1.config = s.config := by
  unfold State.lowerLoop
  split
  · rfl
  · split <;> simp

@[simp] theorem State.sampleAll_config (s : State) : s.sampleAll.config = s.config :=
  foldl_config (fun t h => State.setHpc_config t h _) Hp.all s

@[simp] theorem State.finishComps_config (s : State) : s.finishComps.config = s.config := by
  simp [State.finishComps]

@[simp] theorem State.finishBalance_config (s : State) : s.finishBalance.config = s.config := by
  unfold State.finishBalance
  split <;> simp

@[simp] theorem State.commit_config (s : State) (sub a g : Byte) (e : IlcEntry) (ws : List SlotWrite)
    (ts : U64) : (s.commit sub a g e ws ts).config = s.config := rfl

@[simp] theorem State.frameBody_config (s : State) (sub a g : Byte) (p : List Byte) (ts : U64) :
    (s.frameBody sub a g p ts).1.config = s.config := by
  rcases frameBody_cases s sub a g p ts with ⟨c, id, h⟩ | ⟨e, _, h⟩ | ⟨e, code, ws, _, _, _, _, h⟩
  · simp [h]
  · rcases exceptionFrame_cases s e p ts with ⟨c, h'⟩ | ⟨c, h'⟩ <;> simp [h, h']
  · simp [h]

@[simp] theorem State.goodFrame_config (s : State) (sub : Byte) (body : List Byte) (ts : U64) :
    (s.goodFrame sub body ts).1.config = s.config := by
  unfold State.goodFrame
  split <;> simp

theorem parseLoop_config (sub : Byte) (w : List Word16) (ts : U64) (fuel p : Nat) (s : State) (n : Nat) :
    (parseLoop sub w ts fuel p s n).1.config = s.config := by
  induction fuel generalizing p s n with
  | zero => rfl
  | succ fuel ih =>
    rw [parseLoop]
    split
    · rfl
    · dsimp only
      split <;> simp [ih]

@[simp] theorem State.parseBatch_config (s : State) (sub : Byte) (n : Subnet) :
    (s.parseBatch sub n).1.config = s.config := by
  unfold State.parseBatch
  dsimp only
  split
  · rfl
  · split <;> simp [parseLoop_config]

theorem reconcileOne_config (ts : U64) (s : State) (k : ActType × Nat) :
    (reconcileOne ts s k).config = s.config := by
  unfold reconcileOne
  split <;> rfl

@[simp] theorem State.reconcile_config (s : State) (ts : U64) : (s.reconcile ts).config = s.config :=
  foldl_config (reconcileOne_config ts) _ s

/-! ## How an operation ends -/

/-- How an operation on `s` may end: with `OK`, in a state that `P` holds of, and a response; or refused,
with nothing but the response written (R12, R381). -/
inductive Ends (s : State) (P : State → Prop) : Host.Outcome State Fault Refusal → Prop where
  | done {u : State} (d : RspData) (hu : P u) : Ends s P (.next (u.respond .ok d))
  | refused {st : Status} (d : RspData) (hst : st ≠ .ok) : Ends s P (.next (s.respond st d))

namespace Ends

variable {s t : State} {P Q : State → Prop} {o : Host.Outcome State Fault Refusal}

theorem refuse {st : Status} (hst : st ≠ .ok) : Ends s P (s.refuse st) := .refused .none hst

theorem mono (h : Ends s P o) (hPQ : ∀ u, P u → Q u) : Ends s Q o := by
  cases h with
  | done d hu => exact .done d (hPQ _ hu)
  | refused d hst => exact .refused d hst

/-- The gate of R16 is one more refusal. -/
theorem gated (h : Ends s P o) : Ends s P (whenReady s o) := by
  unfold whenReady
  split
  · exact h
  · exact .refuse (by decide)

/-- Such an operation answers, and if its status is not `OK` nothing but the response has changed. -/
theorem answers (h : Ends s P o) :
    ∃ t r, o = .next t ∧ t.rsp = some r ∧ (r.status ≠ .ok → t = { s with rsp := some r }) := by
  cases h with
  | done d hu => exact ⟨_, ⟨.ok, d⟩, rfl, rfl, fun hne => absurd rfl hne⟩
  | refused d hst => exact ⟨_, ⟨_, d⟩, rfl, rfl, fun _ => rfl⟩

/-- What is known of a state that such an operation leaves. -/
theorem next_cases (h : Ends s P (.next t)) :
    (∃ u d, P u ∧ t = u.respond .ok d) ∨ ∃ st d, st ≠ .ok ∧ t = s.respond st d := by
  cases h with
  | done d hu => exact .inl ⟨_, d, hu, rfl⟩
  | refused d hst => exact .inr ⟨_, d, hst, rfl⟩

/-- A property of the state that a response does not touch. -/
theorem next_of (h : Ends s P (.next t)) (hs : P s) (hP : ∀ u st d, P u → P (u.respond st d)) : P t := by
  rcases h.next_cases with ⟨u, d, hu, rfl⟩ | ⟨st, d, _, rfl⟩
  · exact hP u .ok d hu
  · exact hP s st d hs

end Ends

/-! ### Codec -/

theorem codecGet_ends (buf : List Cell) (cur n : Nat) (mk : List Byte → CodecValue) (s : State) :
    Ends s s.sameConfig (codecGet buf cur n mk s) := by
  refine .gated ?_
  split
  · exact .done _ rfl
  · exact .refused _ (by decide)

theorem codecSet_ends (buf : List Cell) (cur : Nat) (bs : List Byte) (s : State) :
    Ends s s.sameConfig (codecSet buf cur bs s) := by
  refine .gated ?_
  split
  · exact .done _ rfl
  · exact .refused _ (by decide)

theorem execGetStr_ends (buf : List Cell) (cur : Nat) (s : State) :
    Ends s s.sameConfig (execGetStr buf cur s) := by
  refine .gated ?_
  split
  · exact .refused _ (by decide)
  · split
    · exact .refused _ (by decide)
    · split
      · exact .refused _ (by decide)
      · exact .done _ rfl

theorem execSetStr_ends (buf : List Cell) (cur : Nat) (v : List Byte) (s : State) :
    Ends s s.sameConfig (execSetStr buf cur v s) := by
  refine .gated ?_
  split
  · exact .refused _ (by decide)
  · split
    · exact .refused _ (by decide)
    · exact .done _ rfl

/-! ### Frame builder and transport -/

theorem execStartSubnet_ends (sub : Byte) (s : State) : Ends s s.sameConfig (execStartSubnet sub s) := by
  refine .gated ?_
  split
  · exact .refuse (by decide)
  · split
    · exact .refuse (by decide)
    · split
      · exact .refuse (by decide)
      · exact .done _ rfl

theorem execAppend_ends (sub a f : Byte) (args : AppendArgs) (s : State) :
    Ends s s.sameConfig (execAppend sub a f args s) := by
  refine .gated ?_
  split
  · exact .refuse (by decide)
  · dsimp only
    split
    · exact .refuse (by decide)
    · split
      · exact .refuse (by decide)
      · split
        · exact .refuse (by decide)
        · exact .done _ rfl

theorem execEndSubnet_ends (sub : Byte) (s : State) : Ends s s.sameConfig (execEndSubnet sub s) := by
  refine .gated ?_
  split
  · exact .refuse (by decide)
  · dsimp only
    split
    · exact .refuse (by decide)
    · split
      · exact .refuse (by decide)
      · exact .done _ rfl

theorem execSend_ends (sub : Byte) (s : State) : Ends s s.sameConfig (execSend sub s) := by
  refine .gated ?_
  split
  · exact .refuse (by decide)
  · dsimp only
    split
    · exact .refuse (by decide)
    · exact .done _ rfl

theorem execWaitIrq_ends (sub : Byte) (irq : Bool) (rx : List Word16) (s : State) :
    Ends s s.sameConfig (execWaitIrq sub irq rx s) := by
  refine .gated ?_
  split
  · exact .refuse (by decide)
  · split
    · split
      · exact .refuse (by decide)
      · exact .done _ rfl
    · exact .done _ rfl

/-! ### Parser and accounting -/

theorem execParse_ends (sub : Byte) (b : Option Byte) (s : State) :
    Ends s s.sameConfig (execParse sub b s) := by
  refine .gated ?_
  split
  · exact .refuse (by decide)
  · exact .done _ (State.parseBatch_config s sub _)

theorem execReconcile_ends (ts : U64) (s : State) : Ends s s.sameConfig (execReconcile ts s) :=
  .gated (.done _ (State.reconcile_config s ts))

theorem execValidateCrc_ends (b : Byte) (p : Nat) (s : State) :
    Ends s s.sameConfig (execValidateCrc b p s) := by
  refine .gated ?_
  split
  · exact .refuse (by decide)
  · split
    · exact .refuse (by decide)
    · exact .done _ rfl

theorem runResponse_ends (g sub a : Byte) (p : List Byte) (ts : U64) (s : State) :
    Ends s s.sameConfig (runResponse g sub a p ts s) :=
  .gated (.done _ (State.frameBody_config s sub a g p ts))

theorem runOddFrame_ends (sub : Byte) (ts : U64) (body : List Byte) (s : State) :
    Ends s s.sameConfig (runOddFrame sub ts body s) :=
  .gated (.done _ (State.goodFrame_config s sub body ts))

/-! ### Force pipeline -/

theorem onComp_ends (c : Byte) (s : State) {f : Comp → State} (hf : ∀ k, (f k).config = s.config) :
    Ends s s.sameConfig (onComp c s f) := by
  refine .gated ?_
  split
  · exact .refuse (by decide)
  · exact .done _ (hf _)

theorem execFcApply_ends (c : Byte) (x y z : List F32) (s : State) :
    Ends s s.sameConfig (execFcApply c x y z s) := by
  refine .gated ?_
  split
  · exact .refuse (by decide)
  · split
    · exact .done _ rfl
    · exact .refuse (by decide)

theorem execUpdateApplied_ends (s : State) : Ends s s.sameConfig (execUpdateApplied s) :=
  .gated (.done _ (foldl_config State.updateActive_config Comp.all s))

theorem execProcessApplied_ends (s : State) : Ends s s.sameConfig (execProcessApplied s) := by
  refine .gated ?_
  split
  · exact .done _ (State.processForces_config s)
  · exact .refuse (by decide)

/-! ### Safety controller -/

theorem execNotify_ends (code : Byte) (b : Bool) (r : List Byte) (s : State) :
    Ends s s.sameConfig (execNotify code b r s) := by
  refine .gated ?_
  split
  · exact .refuse (by decide)
  · exact .done _ (State.notify_config s _ b r)

theorem execNotifyIlcTimeout_ends (s : State) : Ends s s.sameConfig (execNotifyIlcTimeout s) :=
  .gated (.done _ (State.notify_config (s.pushIlc s.frame.anyTimeout) _ _ _))

theorem execNotifyFaFollowingError_ends (i : Nat) (b : Bool) (r : List Byte) (s : State) :
    Ends s s.sameConfig (execNotifyFaFollowingError i b r s) := by
  refine .gated ?_
  split
  · exact .refuse (by decide)
  · exact .done _ (State.notify_config (s.pushFe i b) _ _ r)

theorem execNotifyHpMeasuredForce_ends (h : Byte) (b : Bool) (r : List Byte) (s : State) :
    Ends s s.sameConfig (execNotifyHpMeasuredForce h b r s) := by
  refine .gated ?_
  split
  · exact .refuse (by decide)
  · exact .done _ (State.notify_config (s.pushHpf _ b) _ _ r)

theorem execNotifyHpAirPressure_ends (h : Byte) (b : Bool) (r : List Byte) (s : State) :
    Ends s s.sameConfig (execNotifyHpAirPressure h b r s) := by
  refine .gated ?_
  split
  · exact .refuse (by decide)
  · exact .done _ (State.notify_config (s.pushHpa _ b) _ _ r)

theorem execCheckSafety_ends (preferred : Byte) (s : State) :
    Ends s s.sameConfig (execCheckSafety preferred s) := by
  refine .gated ?_
  split
  · exact .done _ rfl
  · exact .done _ rfl

/-! ### Raise and lower -/

theorem execHpcSample_ends (h : Byte) (f : F32) (s : State) : Ends s s.sameConfig (execHpcSample h f s) := by
  refine .gated ?_
  split
  · exact .refuse (by decide)
  · exact .done _ rfl

theorem execHpcReset_ends (h : Byte) (s : State) : Ends s s.sameConfig (execHpcReset h s) := by
  refine .gated ?_
  split
  · exact .refuse (by decide)
  · exact .done _ rfl

theorem execHpcStatus_ends (h : Byte) (s : State) : Ends s s.sameConfig (execHpcStatus h s) := by
  refine .gated ?_
  split
  · exact .refuse (by decide)
  · exact .done _ rfl

theorem execRaiseStart_ends (bypass : Bool) (now : F64) (s : State) :
    Ends s s.sameConfig (execRaiseStart bypass now s) := by
  refine .gated ?_
  split
  · exact .refuse (by decide)
  · split
    · exact .refuse (by decide)
    · exact .done _ (State.disableComps_config s transferComps)

theorem execRaiseRunloop_ends (w : Bool) (s : State) : Ends s s.sameConfig (execRaiseRunloop w s) := by
  refine .gated ?_
  split
  · exact .done _ (State.raiseLoop_config s w)
  · exact .refuse (by decide)

theorem execRaiseCheckComplete_ends (m : Bool) (s : State) :
    Ends s s.sameConfig (execRaiseCheckComplete m s) := by
  refine .gated ?_
  split
  · split
    · exact .done _ (State.sampleAll_config s)
    · exact .done _ rfl
  · exact .refuse (by decide)

theorem execRaiseComplete_ends (s : State) : Ends s s.sameConfig (execRaiseComplete s) := by
  refine .gated ?_
  split
  · exact .done _ ((State.finishBalance_config _).trans (State.finishComps_config s))
  · exact .refuse (by decide)

theorem execCheckTimeout_ends (now : F64) (s : State) : Ends s s.sameConfig (execCheckTimeout now s) := by
  refine .gated (.done _ ?_)
  split
  · exact State.timeOut_config s
  · rfl

theorem execTimeout_ends (s : State) : Ends s s.sameConfig (execTimeout s) := by
  refine .gated ?_
  split
  · exact .done _ (State.timeOut_config s)
  · exact .refuse (by decide)

theorem execPause_ends (now : F64) (s : State) : Ends s s.sameConfig (execPause now s) := by
  refine .gated ?_
  split
  · exact .done _ rfl
  · exact .refuse (by decide)

theorem execResume_ends (now : F64) (s : State) : Ends s s.sameConfig (execResume now s) := by
  refine .gated ?_
  split
  · exact .done _ rfl
  · exact .refuse (by decide)

theorem execLowerStart_ends (now : F64) (s : State) : Ends s s.sameConfig (execLowerStart now s) := by
  refine .gated ?_
  split
  · exact .refuse (by decide)
  · split
    · exact .refuse (by decide)
    · exact .done _ (State.disableComps_config s transferComps)

theorem execLowerRunloop_ends (s : State) : Ends s s.sameConfig (execLowerRunloop s) := by
  refine .gated ?_
  split
  · exact .done _ (State.lowerLoop_config s)
  · exact .refuse (by decide)

theorem execLowerCheckComplete_ends (s : State) : Ends s s.sameConfig (execLowerCheckComplete s) := by
  refine .gated ?_
  split
  · exact .done _ rfl
  · exact .refuse (by decide)

theorem execLowerComplete_ends (s : State) : Ends s s.sameConfig (execLowerComplete s) := by
  refine .gated ?_
  split
  · exact .done _ (State.disableComps_config s Comp.all)
  · exact .refuse (by decide)

/-! ### The instructions that do not wait for the block to be configured (R16) -/

/-- `MAP_BUILD` sets `MAP_BUILT`, over a loaded configuration only (R210). -/
theorem execMapBuild_ends (s : State) :
    Ends s (fun u => s.cfgLoaded = true ∧ u.config = (s.cfg, true, true)) (execMapBuild s) := by
  unfold execMapBuild
  split
  · exact .refuse (by decide)
  · rename_i hidle
    have hloaded : s.cfgLoaded = true := by
      simp only [Bool.or_eq_true, Bool.not_eq_true', not_or, Bool.not_eq_false] at hidle
      exact hidle.1
    split
    · exact .refuse (by decide)
    · exact .done _ ⟨hloaded, congrArg (fun b => (s.cfg, b, true)) hloaded⟩

/-- `SETTINGS_LOAD` loads a configuration that its check accepts, and no map with it (R326). -/
theorem execSettingsLoad_ends (c : Cfg) (s : State) :
    Ends s (fun u => cfgOk c = true ∧ u.config = (c, true, false)) (execSettingsLoad c s) := by
  unfold execSettingsLoad
  split
  · exact .refuse (by decide)
  · split
    · exact .refuse (by decide)
    · rename_i hok
      exact .done _ ⟨by simpa using hok, rfl⟩

theorem execReset_ends (s : State) :
    Ends s (fun u => u.config = State.reset.config) (execReset s) := .done _ rfl

theorem execPullTelemetry_ends (v : F64) (s : State) : Ends s s.sameConfig (execPullTelemetry v s) :=
  .done _ rfl

/-! ### Every instruction -/

/-- The instructions that wait for the block to be configured keep the configuration registers. -/
theorem exec_ends_of_gated (i : Instr) (s : State) (hi : ungated i = false) :
    Ends s s.sameConfig (exec i s) := by
  cases i
  case reset | settingsLoad | mapBuild | pullTelemetry => cases hi
  case getU8 | getI8 | getU16 | getI16 | getU32 | getI32 | getU64 | getI64 | getF32 | getF64 =>
    exact codecGet_ends _ _ _ _ s
  case setU8 | setI8 | setU16 | setI16 | setU32 | setI32 | setU64 | setI64 | setF32 | setF64 =>
    exact codecSet_ends _ _ _ s
  case getStr buf cur => exact execGetStr_ends buf cur s
  case setStr buf cur v => exact execSetStr_ends buf cur v s
  case startSubnet sub => exact execStartSubnet_ends sub s
  case append sub a f args => exact execAppend_ends sub a f args s
  case endSubnet sub => exact execEndSubnet_ends sub s
  case send sub => exact execSend_ends sub s
  case waitIrq sub irq rx => exact execWaitIrq_ends sub irq rx s
  case parse sub b => exact execParse_ends sub b s
  case reconcile ts => exact execReconcile_ends ts s
  case validateCrc b p => exact execValidateCrc_ends b p s
  case fcEnable c => exact onComp_ends c s (State.enableComp_config s)
  case fcDisable c | fcZero c => exact onComp_ends c s (State.disableComp_config s)
  case fcUpdate c => exact onComp_ends c s (State.updateComp_config s)
  case fcApply c x y z => exact execFcApply_ends c x y z s
  case updateApplied => exact execUpdateApplied_ends s
  case processApplied => exact execProcessApplied_ends s
  case notify code b r => exact execNotify_ends code b r s
  case notifyIlcTimeout => exact execNotifyIlcTimeout_ends s
  case notifyFaFollowingError k b r => exact execNotifyFaFollowingError_ends k b r s
  case notifyHpMeasuredForce h b r => exact execNotifyHpMeasuredForce_ends h b r s
  case notifyHpAirPressure h b r => exact execNotifyHpAirPressure_ends h b r s
  case checkSafety v => exact execCheckSafety_ends v s
  case raiseStart bypass now => exact execRaiseStart_ends bypass now s
  case raiseRunloop w => exact execRaiseRunloop_ends w s
  case raiseCheckComplete m => exact execRaiseCheckComplete_ends m s
  case raiseComplete => exact execRaiseComplete_ends s
  case checkTimeout now => exact execCheckTimeout_ends now s
  case timeout => exact execTimeout_ends s
  case pause now => exact execPause_ends now s
  case resume now => exact execResume_ends now s
  case lowerStart now => exact execLowerStart_ends now s
  case lowerRunloop => exact execLowerRunloop_ends s
  case lowerCheckComplete => exact execLowerCheckComplete_ends s
  case lowerComplete => exact execLowerComplete_ends s
  case hpcSample h f => exact execHpcSample_ends h f s
  case hpcReset h => exact execHpcReset_ends h s
  case hpcStatus h => exact execHpcStatus_ends h s
  case crc16 | clearError | clearErrorCode | rlReset | spInc | spDec | spZero | spFill | spFilled
      | spZeroed | faFeInTol | hpForcesInTol =>
    exact .gated (.done _ rfl)
  all_goals exact runResponse_ends _ _ _ _ _ s

/-- What one instruction can do to the configuration registers (R16, R210, R326, R420): `c` before it, `c'`
after it. -/
inductive ConfigWrite (c c' : Cfg × Bool × Bool) : Prop where
  | kept (h : c' = c)
  | mapBuilt (hl : c.2.1 = true) (h : c' = (c.1, true, true))
  | loaded (k : Cfg) (hk : cfgOk k = true) (h : c' = (k, true, false))
  | reset (h : c' = State.reset.config)

/-- How any instruction ends, and what it may do to the configuration registers. -/
theorem exec_ends (i : Instr) (s : State) : Ends s (fun u => ConfigWrite s.config u.config) (exec i s) := by
  cases hi : ungated i with
  | false => exact (exec_ends_of_gated i s hi).mono fun _ => .kept
  | true =>
    cases i
    case reset => exact (execReset_ends s).mono fun _ => .reset
    case settingsLoad c => exact (execSettingsLoad_ends c s).mono fun _ h => .loaded c h.1 h.2
    case mapBuild => exact (execMapBuild_ends s).mono fun _ h => .mapBuilt h.1 h.2
    case pullTelemetry v => exact (execPullTelemetry_ends v s).mono fun _ => .kept
    all_goals cases hi

theorem configInv_iff {u : State} {c : Cfg} {loaded built : Bool} (h : u.config = (c, loaded, built)) :
    ConfigInv u ↔ (built = true → loaded = true) ∧ (loaded = true → cfgOk c = true) := by
  simp only [State.config, Prod.mk.injEq] at h
  obtain ⟨rfl, rfl, rfl⟩ := h
  rfl

/-- Whatever an instruction writes there, the configuration registers keep their invariant (R8, R326). -/
theorem ConfigWrite.configInv {s u : State} (h : ConfigWrite s.config u.config) (hs : ConfigInv s) :
    ConfigInv u := by
  cases h with
  | kept h => exact (configInv_iff h).mpr hs
  | mapBuilt hl h => exact (configInv_iff h).mpr ⟨fun _ => rfl, fun _ => hs.2 hl⟩
  | loaded k hk h => exact (configInv_iff h).mpr ⟨nofun, fun _ => hk⟩
  | reset h => exact (configInv_iff h).mpr ⟨nofun, nofun⟩

end Sys2Proof.Machine

/-! # What a step takes and runs (spec/00_scope.md R5, spec/10_state.md R24) -/

namespace Sys2Proof.Machine

theorem step_of_empty {s : State} (h : s.inputs = []) : step s = .next s := by
  rw [step, runNext, h]

theorem step_of_cons {s : State} {x : Input} {rest : List Input} (h : s.inputs = x :: rest) :
    step s = runInput x { s with inputs := rest } := by
  rw [step, runNext, h]

theorem runInput_of_ok {x : Input} {i : Instr} (h : decodeInput x = .ok i) (s : State) :
    runInput x s = exec i s := by
  rw [runInput, h]

theorem runInput_of_error {x : Input} {e : DecodeError} (h : decodeInput x = .error e) (s : State) :
    runInput x s = rejectInput e x s := by
  rw [runInput, h]

/-- What an input that decodes to no instruction can leave: reset, nothing written, a frame looked at, or
a refusal. -/
theorem rejectInput_cases {e : DecodeError} {x : Input} {s t : State} (h : rejectInput e x s = .next t) :
    t = s.resetAll ∨ t = s ∨ (∃ sub ts body, runOddFrame sub ts body s = .next t) ∨
      t = s.respond .badOperand .none := by
  cases x with
  | rstN => exact .inl (Host.Outcome.next.inj h).symm
  | irq n => exact .inr (.inl (Host.Outcome.next.inj h).symm)
  | response sub ts body => exact .inr (.inr (.inl ⟨sub, ts, body, h⟩))
  | command bytes =>
    cases e with
    | unassigned op => exact .inr (.inr (.inr (Host.Outcome.next.inj h).symm))
    | _ => cases h

/-- A run input writes the configuration registers as one instruction may, also where it is none. -/
theorem runInput_configWrite {x : Input} {s t : State} (h : runInput x s = .next t) :
    ConfigWrite s.config t.config := by
  cases hdec : decodeInput x with
  | ok i =>
    rw [runInput_of_ok hdec] at h
    exact (h ▸ exec_ends i s).next_of (.kept rfl) fun _ _ _ hu => hu
  | error e =>
    rw [runInput_of_error hdec] at h
    rcases rejectInput_cases h with rfl | rfl | ⟨sub, ts, body, hodd⟩ | rfl
    · exact .reset rfl
    · exact .kept rfl
    · exact .kept ((hodd ▸ runOddFrame_ends sub ts body s).next_of rfl fun _ _ _ hu => hu)
    · exact .kept rfl

/-- What a step can do to the configuration registers. -/
theorem step_configWrite {s t : State} (h : step s = .next t) :
    ConfigWrite s.config t.config := by
  cases hin : s.inputs with
  | nil =>
    rw [step_of_empty hin] at h
    cases h
    exact .kept rfl
  | cons x rest =>
    rw [step_of_cons hin] at h
    exact runInput_configWrite (s := { s with inputs := rest }) h

/-! ## Before the block is configured, and unassigned codes -/

/-- Every instruction but R16's four waits behind the gate. -/
theorem exec_eq_whenReady (i : Instr) (s : State) (hi : ungated i = false) :
    ∃ k, exec i s = whenReady s k := by
  cases i
  case reset | settingsLoad | mapBuild | pullTelemetry => cases hi
  all_goals exact ⟨_, rfl⟩

theorem exec_of_not_ready {i : Instr} {s : State} (hi : ungated i = false) (hs : s.ready = false) :
    exec i s = .next (s.respond .notConfigured .none) := by
  obtain ⟨k, hk⟩ := exec_eq_whenReady i s hi
  rw [hk, whenReady_not_ready hs]

theorem ready_eq_false_iff (s : State) : s.ready = false ↔ s.cfgLoaded = false ∨ s.mapBuilt = false := by
  rw [State.ready, Bool.and_eq_false_iff]

/-- The decoder knows the operation codes of R140 and no other. -/
theorem operandReader_isSome_iff (op : Byte) :
    (operandReader op).isSome = true ↔ op.toNat ∈ assignedCodes := by
  revert op
  decide

theorem decodeInput_unassigned {op : Byte} (h : op.toNat ∉ assignedCodes) (args : List Byte) :
    decodeInput (.command (op :: args)) = .error (.unassigned op) := by
  have hr : operandReader op = none := by
    rw [← Option.not_isSome_iff_eq_none, operandReader_isSome_iff]
    exact h
  simp only [decodeInput, decodeCommand, hr]

/-! ## What R5, R12, R16 and R8 ask -/

/-- Settles O2: the equations of `step` and of `runInput`. -/
theorem stepRunsDecodedInstruction : Obligations.StepRunsDecodedInstruction := by
  unfold Obligations.StepRunsDecodedInstruction
  refine ⟨fun s x rest i hin hdec => ?_, fun s hin => step_of_empty hin⟩
  rw [step_of_cons hin, runInput_of_ok hdec]

/-- Settles O5: every instruction ends as `Ends` says. -/
theorem everyOperationAnswers : Obligations.EveryOperationAnswers := by
  unfold Obligations.EveryOperationAnswers
  exact fun i s => (exec_ends i s).answers

/-- Settles O6: the gate stands before every instruction but four, and the decoder finds no reader for an
unassigned code. -/
theorem notConfiguredBeforeSetup : Obligations.NotConfiguredBeforeSetup := by
  unfold Obligations.NotConfiguredBeforeSetup
  refine ⟨fun i s hi hs => exec_of_not_ready hi ((ready_eq_false_iff s).mpr hs), ?_⟩
  intro s op args rest hin hop
  rw [step_of_cons hin, runInput_of_error (decodeInput_unassigned hop args)]
  rfl

/-- Settles O8: a step writes the configuration registers in four ways only, and each keeps the invariant. -/
theorem configKept : Obligations.ConfigKept := by
  unfold Obligations.ConfigKept
  exact fun s t hs hstep => (step_configWrite hstep).configInv hs

end Sys2Proof.Machine

/-! # What the check of a configuration says (spec/00_scope.md R8)

One `↔` or one consequence per function of Machine/CfgCheck.lean, then O28. -/

namespace Sys2Proof.Machine

/-! ## Lists, banks, indices -/

theorem nodupB_iff {α : Type} [DecidableEq α] (l : List α) : nodupB l = true ↔ l.Nodup := by
  induction l with
  | nil => simp [nodupB]
  | cons a r ih => simp [nodupB, ih]

theorem PerSubnet.all_get {α : Type} {p : PerSubnet α} {f : α → Bool} (h : p.all f = true) (n : Subnet) :
    f (p.get n) = true := by
  simp only [PerSubnet.all, Bool.and_eq_true] at h
  obtain ⟨⟨⟨⟨h1, h2⟩, h3⟩, h4⟩, h5⟩ := h
  cases n <;> assumption

theorem PerComp.all_get {α : Type} {p : PerComp α} {f : α → Bool} (h : p.all f = true) (k : Comp) :
    f (p.get k) = true := by
  simp only [PerComp.all, Bool.and_eq_true] at h
  obtain ⟨⟨⟨⟨⟨⟨⟨⟨h0, h1⟩, h2⟩, h3⟩, h4⟩, h5⟩, h6⟩, h7⟩, h8⟩ := h
  cases k <;> assumption

theorem indexIn_iff (v : I32) (n : Nat) : indexIn v n = true ↔ ∃ i, indexOf v = some i ∧ i < n := by
  unfold indexIn
  cases indexOf v <;> simp

theorem indexOk_iff (v : I32) (n : Nat) :
    indexOk v n = true ↔ v = -1 ∨ ∃ i, indexOf v = some i ∧ i < n := by
  unfold indexOk
  rw [Bool.or_eq_true, beq_iff_eq]
  exact or_congr_right (indexIn_iff v n)

theorem indexOf_eq_some {v : I32} {i : Nat} (h : indexOf v = some i) : i = v.toNat := by
  unfold indexOf at h
  split at h
  · cases h
  · exact (Option.some.inj h).symm

theorem Subnet.isSome_ofByte_iff (b : Byte) :
    (Subnet.ofByte b).isSome = true ↔ 1 ≤ b.toNat ∧ b.toNat ≤ 5 := by
  rw [← not_iff_not, Option.not_isSome_iff_eq_none, Subnet.ofByte_eq_none_iff]

/-- An element read with a default, at an index inside the list. -/
theorem getElem?_of_getD {α : Type} {l : List α} {i : Nat} {d a : α} (hi : i < l.length)
    (h : l.getD i d = a) : l[i]? = some a := by
  rw [List.getD_eq_getElem l d hi] at h
  rw [List.getElem?_eq_getElem hi, h]

/-! ## A row of the actuator table -/

theorem rowOk_owner {c : PlantCfg} {r : ActuatorRow} (h : rowOk c r = true) :
    1 ≤ r.subnet.toNat ∧ r.subnet.toNat ≤ 5 ∧ r.address.toNat ≠ 255 := by
  simp only [rowOk, Bool.and_eq_true, bne_iff_ne, Subnet.isSome_ofByte_iff] at h
  obtain ⟨⟨⟨h1, h5⟩, haddr⟩, _⟩ := h
  exact ⟨h1, h5, fun h255 => haddr (BitVec.eq_of_toNat_eq h255)⟩

/-- A force actuator's row: `i` is its place in the arrays by actuator (R7, R91). -/
theorem rowOk_forceActuator {c : PlantCfg} {r : ActuatorRow} (h : rowOk c r = true)
    (ht : r.entry.type = .forceActuator) (hx : c.xIndex.length = c.nFA) (hy : c.yIndex.length = c.nFA) :
    ∃ i, indexOf r.entry.dataIndex = some i ∧ i < c.nFA ∧
      (r.entry.xDataIndex = -1 ∨ ∃ k, indexOf r.entry.xDataIndex = some k ∧ k < c.nX) ∧
      (r.entry.yDataIndex = -1 ∨ ∃ k, indexOf r.entry.yDataIndex = some k ∧ k < c.nY) ∧
      c.xIndex[i]? = some r.entry.xDataIndex ∧ c.yIndex[i]? = some r.entry.yDataIndex ∧
      (c.orientation[i]? = some .singleAxis → r.entry.secondaryDataIndex = -1) := by
  simp only [rowOk, ht, Bool.and_eq_true, Bool.or_eq_true, beq_iff_eq, bne_iff_ne, indexIn_iff,
    indexOk_iff] at h
  obtain ⟨_, ⟨⟨⟨⟨⟨i, hi, hlt⟩, hxi⟩, hyi⟩, hsec⟩, hxe⟩, hye⟩ := h
  have hidx := indexOf_eq_some hi
  rw [← hidx] at hsec hxe hye
  refine ⟨i, hi, hlt, hxi, hyi, getElem?_of_getD (hx ▸ hlt) hxe, getElem?_of_getD (hy ▸ hlt) hye, ?_⟩
  intro horient
  rcases hsec with hsec | ⟨_, hdual⟩
  · exact hsec
  · exact absurd (by rw [List.getD_eq_getElem?_getD, horient, Option.getD_some]) hdual

theorem rowOk_hardpoint {c : PlantCfg} {r : ActuatorRow} (h : rowOk c r = true)
    (ht : r.entry.type = .hardpoint ∨ r.entry.type = .hardpointMonitor) :
    ∃ i, indexOf r.entry.dataIndex = some i ∧ i < 6 := by
  rcases ht with ht | ht <;>
  · simp only [rowOk, ht, Bool.and_eq_true, indexIn_iff] at h
    exact h.2

/-! ## The parts of the check -/

/-- What the check of the plant says, conjunct by conjunct. -/
theorem plantOk_iff (c : PlantCfg) : plantOk c = true ↔
    (c.nX ≤ c.nFA ∧ c.nY ≤ c.nFA) ∧
      (c.orientation.length = c.nFA ∧ c.xIndex.length = c.nFA ∧ c.yIndex.length = c.nFA) ∧
      ((∀ v ∈ c.xIndex, indexOk v c.nX = true) ∧ ∀ v ∈ c.yIndex, indexOk v c.nY = true) ∧
      (∀ r ∈ c.actuatorTable, rowOk c r = true) ∧
      (c.actuatorTable.map (fun r => (r.subnet, r.address))).Nodup ∧
      (c.actuatorTable.map (fun r => r.entry.actuatorId)).Nodup ∧
      c.subnetAddrs.all (fun l => l.getLast? == some 255) = true := by
  simp only [plantOk, Bool.and_eq_true, decide_eq_true_eq, beq_iff_eq, List.all_eq_true, nodupB_iff,
    and_assoc]

theorem Tri.shaped_iff {α : Type} (c : PlantCfg) (t : Tri α) :
    Tri.shaped c t = true ↔ t.x.length = c.nX ∧ t.y.length = c.nY ∧ t.z.length = c.nFA := by
  simp only [Tri.shaped, Bool.and_eq_true, beq_iff_eq, and_assoc]

theorem Tri.all_mem {α : Type} {t : Tri α} {f : α → Bool} (h : t.all f = true) {a : α}
    (ha : a ∈ t.x ∨ a ∈ t.y ∨ a ∈ t.z) : f a = true := by
  simp only [Tri.all, Bool.and_eq_true, List.all_eq_true] at h
  obtain ⟨⟨hx, hy⟩, hz⟩ := h
  exact ha.elim (hx a) fun ha => ha.elim (hy a) (hz a)

theorem f32Le_not_nan {a b : F32} (h : f32Le a b = true) : f32IsNaN a = false ∧ f32IsNaN b = false := by
  simp only [f32Le, Fmt.le, Bool.and_eq_true, Bool.not_eq_true'] at h
  exact h.1

theorem mem_zipWith_of_mem_zip {α β γ : Type} (f : α → β → γ) {l : List α} {m : List β} {a : α} {b : β}
    (h : (a, b) ∈ l.zip m) : f a b ∈ l.zipWith f m := by
  rw [← List.map_uncurry_zip_eq_zipWith]
  exact List.mem_map_of_mem h

/-- Every limit table that is accepted has the shape of R43, and each of its pairs is ordered, so that
neither limit is a NaN (R8). -/
theorem limitsOk_pairs {c : PlantCfg} {l : Limits} (h : limitsOk c l = true) :
    (l.low.x.length = c.nX ∧ l.low.y.length = c.nY ∧ l.low.z.length = c.nFA) ∧
      (l.high.x.length = c.nX ∧ l.high.y.length = c.nY ∧ l.high.z.length = c.nFA) ∧
      ∀ lo hi, (lo, hi) ∈ l.low.x.zip l.high.x ∨ (lo, hi) ∈ l.low.y.zip l.high.y ∨
          (lo, hi) ∈ l.low.z.zip l.high.z →
        f32Le lo hi = true ∧ f32IsNaN lo = false ∧ f32IsNaN hi = false := by
  simp only [limitsOk, Bool.and_eq_true, Tri.shaped_iff] at h
  obtain ⟨⟨⟨⟨hlow, hhigh⟩, _⟩, _⟩, hle⟩ := h
  refine ⟨hlow, hhigh, fun lo hi hmem => ?_⟩
  have hpair : f32Le lo hi = true := Tri.all_mem hle
    (hmem.imp (mem_zipWith_of_mem_zip f32Le)
      (Or.imp (mem_zipWith_of_mem_zip f32Le) (mem_zipWith_of_mem_zip f32Le)))
  exact ⟨hpair, f32Le_not_nan hpair⟩

/-- What the check of FORCE says of the limits and of the tables by actuator. -/
theorem forceOk_tables {c : Cfg} (h : forceOk c = true) :
    (∀ k, limitsOk c.plant (c.force.limits.get k) = true) ∧ limitsOk c.plant c.force.finalLimits = true ∧
      c.force.pos.length = c.plant.nFA ∧ c.force.nearNbr.length = c.plant.nFA ∧
      c.force.farNbr.length = c.plant.nFA ∧
      ∀ l ∈ c.force.nearNbr ++ c.force.farNbr, ∀ j ∈ l, j < c.plant.nFA := by
  simp only [forceOk, Bool.and_eq_true, beq_iff_eq, List.all_eq_true, decide_eq_true_eq, and_assoc] at h
  obtain ⟨hlim, hfin, _, _, _, hpos, _, _, _, hnear, hnearIn, hfar, hfarIn, _⟩ := h
  exact ⟨PerComp.all_get hlim, hfin, hpos, hnear, hfar,
    fun l hl => (List.mem_append.mp hl).elim (hnearIn l) (hfarIn l)⟩

theorem safetyOk_iff (c : SafetyCfg) : safetyOk c = true ↔
    1 ≤ c.winPeriod.ilc ∧ 1 ≤ c.winPeriod.fe ∧ 1 ≤ c.winPeriod.hpf ∧ 1 ≤ c.winPeriod.hpa := by
  simp only [safetyOk, PerWindow.all, Bool.and_eq_true, decide_eq_true_eq, and_assoc]

/-- Settles O28: each part of the check gives its clauses of R8. -/
theorem acceptedConfigIsWellFormed : Obligations.AcceptedConfigIsWellFormed := by
  unfold Obligations.AcceptedConfigIsWellFormed
  intro c hc
  simp only [cfgOk, Bool.and_eq_true] at hc
  obtain ⟨⟨⟨⟨hplant, _⟩, hforce⟩, hsafety⟩, _⟩ := hc
  obtain ⟨⟨hnX, hnY⟩, ⟨horient, hx, hy⟩, ⟨hxIn, hyIn⟩, hrows, haddr, hid, hends⟩ :=
    (plantOk_iff c.plant).mp hplant
  obtain ⟨hlim, hfin, hpos, hnear, hfar, hnbr⟩ := forceOk_tables hforce
  refine ⟨haddr, hid, fun r hr => ?_, ⟨hnX, hnY, horient, hx, hy⟩,
    fun v hv => (indexOk_iff v _).mp (hxIn v hv), fun v hv => (indexOk_iff v _).mp (hyIn v hv),
    ⟨hpos, hnear, hfar, hnbr⟩, fun n => ?_, (safetyOk_iff _).mp hsafety, fun l hl => ?_⟩
  · obtain ⟨h1, h5, h255⟩ := rowOk_owner (hrows r hr)
    exact ⟨h1, h5, h255, fun ht => rowOk_forceActuator (hrows r hr) ht hx hy,
      rowOk_hardpoint (hrows r hr)⟩
  · exact beq_iff_eq.mp (PerSubnet.all_get hends n)
  · rcases hl with rfl | ⟨k, rfl⟩
    · exact limitsOk_pairs hfin
    · exact limitsOk_pairs (hlim k)

end Sys2Proof.Machine

/-! # What an instruction may write, one write at a time (spec/10_state.md R393)

Whatever an instruction that waits for the configuration does is a sequence of the register writes listed
in `RegWrite`. One lemma per operation ties the list to the model; an invariant is then checked once per
write, not once per instruction. -/

namespace Sys2Proof.Machine

/-- The writes of one force component (R262, R263, R268, R274). -/
inductive CompWrite (c : Cfg) (k : Comp) (v : Component) : Component → Prop where
  | enable : CompWrite c k v { v with state := .enabled }
  | disable : CompWrite c k v v.disable
  | apply (t : Tri F32) (ht : targetsOk c t = true) : CompWrite c k v { v with target := t, state := .enabled }
  | rampEnd (hv : v.state = .disabling)
      (hz : (v.walk (c.force.maxRate.get k)).nearZero c.force.nearZeroEps = true) :
      CompWrite c k v (v.walk (c.force.maxRate.get k)).finishRamp
  | update (hv : v.state ≠ .disabled) :
      CompWrite c k v ((v.walk (c.force.maxRate.get k)).clip (c.force.limits.get k))

/-- The writes of `PCT` (R358 to R361). -/
inductive PctWrite (c : RaiseCfg) (p : F64) : F64 → Prop where
  | up : PctWrite c p (pctUp c p)
  | down : PctWrite c p (pctDown c p)
  | zero : PctWrite c p 0
  | full : PctWrite c p f64Hundred

/-- The writes of RAISE (R344 to R371). -/
inductive RaiseWrite (c : RaiseCfg) (u : RaiseUnit) : RaiseUnit → Prop where
  | startRaise (bypass : Bool) (now : F64) : RaiseWrite c u (u.startRaise c bypass now)
  | startLower (now : F64) : RaiseWrite c u (u.startLower c now)
  | airWait (b : Bool) : RaiseWrite c u { u with waitAirLogged := b }
  | stall : RaiseWrite c u { u with stalled := true }
  | progressUp : RaiseWrite c u (u.progressUp (pctUp c u.pct))
  | progressDown (chase : Bool) :
      RaiseWrite c u { u with stalled := false, pct := pctDown c u.pct, chase := chase }
  | pct {p : F64} (hp : PctWrite c u.pct p) : RaiseWrite c u { u with pct := p }
  | hpc (h : Hp) (v : InRangeCounter) : RaiseWrite c u { u with hpc := u.hpc.set h v }
  | raised : RaiseWrite c u { u with pct := f64Hundred, deadline := f64NaN, rstate := .complete }
  | lowered : RaiseWrite c u { u with pct := 0, chase := false, deadline := f64NaN, rstate := .idle }
  | timedOut : RaiseWrite c u { u with timedOut := true }
  | pause (r : F64) : RaiseWrite c u { u with remain := r, deadline := f64NaN, rstate := .paused }
  | resume (now : F64) :
      RaiseWrite c u { u with segStart := now, deadline := f64Add now u.remain, rstate := .running }
  | reset : RaiseWrite c u
      { u with rstate := .idle, timedOut := false, deadline := f64NaN, remain := 0, bypass := false,
               stalled := false, waitAirLogged := false, hpc := PerHp.pure InRangeCounter.init }

/-- One write of a register file, or one event logged, by an instruction behind the gate of R16. -/
inductive RegWrite (s : State) : State → Prop where
  | log (e : Event) : RegWrite s (s.logEvent e)
  | warn (c : Cause) (id : I32) (ts : U64) : RegWrite s (s.emit c id ts)
  | bump (e : IlcEntry) (d : I32) : RegWrite s (s.bumpExpect e d)
  | zeroExpect (t : ActType) (i : Nat) :
      RegWrite s { s with frame := s.frame.updateExpect t i (fun _ => 0) }
  | slots (e : IlcEntry) (ws : List SlotWrite) :
      RegWrite s { s with frame := s.frame.writeUpdate s.cfg e ws }
  | tx (n : Subnet) (b : TxBatch) : RegWrite s (s.setTx n b)
  | txOut (o : PerSubnet (List Word16)) : RegWrite s { s with txOut := o }
  | rx (n : Subnet) (w : List Word16) : RegWrite s (s.setRx n w)
  | rxts (n : Subnet) (ts : U64) : RegWrite s (s.setRxts n ts)
  | anyTimeout (b : Bool) : RegWrite s (s.setAnyTimeout b)
  | comp (k : Comp) {v : Component} (hv : CompWrite s.cfg k (s.force.fc.get k) v) : RegWrite s (s.setComp k v)
  | sumForces : RegWrite s s.sumForces
  | finalClip (applied : Tri F32) (hc : applied = clampTri s.cfg.force.finalLimits s.force.fin.preclipped) :
      RegWrite s (s.setFin { s.force.fin with
        applied := applied
        clipWarn := clipFlags s.force.fin.preclipped applied
        anyClip := anyFlag (clipFlags s.force.fin.preclipped applied) })
  | convert : RegWrite s s.convert
  | resultant : RegWrite s s.computeResultant
  | momentCount (n : Nat) : RegWrite s (s.setMomentCount n)
  | latch {c : FaultCode} (hc : c ≠ .noFault) (b : Bool) (r : List Byte) : RegWrite s (s.notify c b r)
  | enterFault : RegWrite s s.enterFault
  | clearLatch : RegWrite s s.clearLatch
  | clearFaults : RegWrite s s.clearFaults
  | pushIlc (b : Bool) : RegWrite s (s.pushIlc b)
  | pushFe (i : Nat) (b : Bool) : RegWrite s (s.pushFe i b)
  | pushHpf (h : Hp) (b : Bool) : RegWrite s (s.pushHpf h b)
  | pushHpa (h : Hp) (b : Bool) : RegWrite s (s.pushHpa h b)
  | raise {u : RaiseUnit} (hu : RaiseWrite s.cfg.raise s.raise u) : RegWrite s (s.setRaise u)

/-- `u` is `s` after some register writes in sequence. -/
abbrev State.Writes (s : State) : State → Prop := Relation.ReflTransGen RegWrite s

/-- No register write touches the configuration registers (R64, R326). -/
theorem RegWrite.config {s u : State} (h : RegWrite s u) : u.config = s.config := by
  cases h with
  | latch _ b r => exact State.notify_config s _ b r
  | _ => rfl

theorem RegWrite.cfg {s u : State} (h : RegWrite s u) : u.cfg = s.cfg := congrArg Prod.fst h.config

theorem RegWrite.mapBuilt {s u : State} (h : RegWrite s u) : u.mapBuilt = s.mapBuilt :=
  congrArg (fun c => c.2.2) h.config

theorem State.Writes.config {s u : State} (h : s.Writes u) : u.config = s.config := by
  induction h with
  | refl => rfl
  | tail _ hw ih => exact hw.config.trans ih

theorem State.Writes.cfg {s u : State} (h : s.Writes u) : u.cfg = s.cfg :=
  congrArg Prod.fst (State.Writes.config h)

/-- A fold of operations that each are register writes. -/
theorem foldl_writes {α : Type} {f : State → α → State}
    (hf : ∀ (s : State) (a : α), s.Writes (f s a)) (l : List α) (s : State) : s.Writes (l.foldl f s) := by
  induction l generalizing s with
  | nil => exact .refl
  | cons a r ih => exact (hf s a).trans (ih (f s a))

/-! ## The shared operations -/

theorem State.logClip_writes (s : State) (k : Nat) (t : Tri Bool) : s.Writes (s.logClip k t) := by
  unfold State.logClip
  split
  · exact .single (.log _)
  · exact .refl

theorem clipFault_ne_noFault (k : Comp) : clipFault k ≠ .noFault := by cases k <;> decide

theorem timeoutFault_ne_noFault (d : RaiseDir) : timeoutFault d ≠ .noFault := by cases d <;> decide

theorem State.enableComp_writes (s : State) (k : Comp) : s.Writes (s.enableComp k) := .single (.comp k .enable)

theorem State.disableComp_writes (s : State) (k : Comp) : s.Writes (s.disableComp k) :=
  .single (.comp k .disable)

theorem State.disableComps_writes (s : State) (ks : List Comp) : s.Writes (s.disableComps ks) :=
  foldl_writes State.disableComp_writes ks s

theorem State.enableComps_writes (s : State) (ks : List Comp) : s.Writes (s.enableComps ks) :=
  foldl_writes State.enableComp_writes ks s

/-! ## Force pipeline -/

theorem State.updateComp_writes (s : State) (k : Comp) : s.Writes (s.updateComp k) := by
  rcases updateComp_cases s k with ⟨_, h⟩ | ⟨hd, hz, h⟩ | ⟨hd, _, h⟩
  · rw [h]
  · rw [h]
    exact .single (.comp k (.rampEnd hd hz))
  · rw [h]
    have hcomp := Relation.ReflTransGen.single (RegWrite.comp (s := s) k (.update hd))
    exact (hcomp.trans (State.logClip_writes _ _ _)).tail (.latch (clipFault_ne_noFault k) _ _)

theorem State.updateActive_writes (s : State) (k : Comp) : s.Writes (s.updateActive k) := by
  unfold State.updateActive
  split
  · exact State.updateComp_writes s k
  · exact .refl

theorem State.finalClip_writes (s : State) : s.Writes s.finalClip := by
  have hfin := Relation.ReflTransGen.single (RegWrite.finalClip (s := s) _ rfl)
  exact (hfin.trans (State.logClip_writes _ 9 _)).tail (.latch (by decide) _ _)

theorem State.checkMoments_writes (s : State) : s.Writes s.checkMoments :=
  (Relation.ReflTransGen.single (.momentCount _)).tail (.latch (by decide) _ _)

theorem State.checkNear_write (s : State) : RegWrite s s.checkNear := .latch (by decide) _ _

theorem State.checkWeight_write (s : State) : RegWrite s s.checkWeight := .latch (by decide) _ _

theorem State.checkFar_write (s : State) : RegWrite s s.checkFar := .latch (by decide) _ _

/-- The stages of `PROCESS_APPLIED` in order (R280, R288). -/
theorem State.processForces_writes (s : State) : s.Writes s.processForces := by
  have hclip : s.Writes s.sumForces.finalClip :=
    (Relation.ReflTransGen.single .sumForces).trans (State.finalClip_writes _)
  have hmoments : s.Writes s.sumForces.finalClip.convert.computeResultant.checkMoments :=
    ((hclip.tail .convert).tail .resultant).trans (State.checkMoments_writes _)
  unfold State.processForces
  exact ((hmoments.tail (State.checkNear_write _)).tail (State.checkWeight_write _)).tail
    (State.checkFar_write _)

/-! ## Parser and accounting -/

theorem State.commit_writes (s : State) (sub a g : Byte) (e : IlcEntry) (ws : List SlotWrite) (ts : U64) :
    s.Writes (s.commit sub a g e ws ts) :=
  ((Relation.ReflTransGen.single (.slots e ws)).tail (.bump e (-1))).tail (.log _)

theorem State.frameBody_writes (s : State) (sub a g : Byte) (p : List Byte) (ts : U64) :
    s.Writes (s.frameBody sub a g p ts).1 := by
  rcases frameBody_cases s sub a g p ts with ⟨c, id, h⟩ | ⟨e, _, h⟩ | ⟨e, _, ws, _, _, _, _, h⟩
  · rw [h]
    exact .single (.warn c id ts)
  · rw [h]
    rcases exceptionFrame_cases s e p ts with ⟨c, h'⟩ | ⟨c, h'⟩
    · rw [h']
      exact .single (.warn c _ ts)
    · rw [h']
      exact (Relation.ReflTransGen.single (.warn c _ ts)).tail (.bump e (-1))
  · rw [h]
    exact State.commit_writes s sub a g e ws ts

theorem State.goodFrame_writes (s : State) (sub : Byte) (body : List Byte) (ts : U64) :
    s.Writes (s.goodFrame sub body ts).1 := by
  unfold State.goodFrame
  split
  · exact State.frameBody_writes s sub _ _ _ ts
  · exact .single (.warn _ _ ts)

theorem parseLoop_writes (sub : Byte) (w : List Word16) (ts : U64) (fuel p : Nat) (s : State) (n : Nat) :
    s.Writes (parseLoop sub w ts fuel p s n).1 := by
  induction fuel generalizing p s n with
  | zero => exact .refl
  | succ fuel ih =>
    rw [parseLoop]
    split
    · exact .refl
    · dsimp only
      split
      · exact .single (.warn _ _ ts)
      · exact .head (.warn _ _ ts) (ih _ _ _)
      · exact .head (.warn _ _ ts) (ih _ _ _)
      · exact (State.goodFrame_writes s sub _ ts).trans (ih _ _ _)

theorem State.parseBatch_writes (s : State) (sub : Byte) (n : Subnet) :
    s.Writes (s.parseBatch sub n).1 := by
  unfold State.parseBatch
  dsimp only
  split
  · exact .refl
  · split
    · exact .single (.warn _ _ _)
    · exact .head (.rxts n _) (parseLoop_writes _ _ _ _ _ _ _)

theorem reconcileOne_writes (ts : U64) (s : State) (k : ActType × Nat) : s.Writes (reconcileOne ts s k) := by
  unfold reconcileOne
  split
  · exact .refl
  · exact (Relation.ReflTransGen.single (.warn _ _ ts)).tail (.zeroExpect k.1 k.2)

theorem State.reconcile_writes (s : State) (ts : U64) : s.Writes (s.reconcile ts) :=
  (foldl_writes (reconcileOne_writes ts) _ s).tail (.anyTimeout _)

/-! ## Raise and lower -/

theorem State.holdAir_writes (s : State) : s.Writes s.holdAir := by
  unfold State.holdAir
  split
  · exact .single (.raise (.airWait true))
  · exact (Relation.ReflTransGen.single (.log _)).tail (.raise (.airWait true))

theorem State.stall_writes (s : State) : s.Writes s.stall := by
  unfold State.stall
  split
  · exact .single (.raise .stall)
  · exact (Relation.ReflTransGen.single (.log _)).tail (.raise .stall)

theorem State.progressUp_writes (s : State) : s.Writes s.progressUp := by
  have hup := Relation.ReflTransGen.single (RegWrite.raise (s := s) .progressUp)
  unfold State.progressUp
  dsimp only
  split
  · exact hup.trans (State.enableComp_writes _ .static)
  · exact hup

theorem State.progressDown_writes (s : State) : s.Writes s.progressDown := by
  have hdown := Relation.ReflTransGen.single (RegWrite.raise (s := s)
    (.progressDown (if pctZeroed (pctDown s.cfg.raise s.raise.pct) then false else s.raise.chase)))
  unfold State.progressDown
  dsimp only
  split
  · exact hdown.trans (State.disableComp_writes _ .static)
  · exact hdown

theorem State.raiseLoop_writes (s : State) (w : Bool) : s.Writes (s.raiseLoop w).1 := by
  unfold State.raiseLoop
  dsimp only
  split
  · exact .refl
  · split
    · exact State.holdAir_writes s
    · split
      · exact .head (.raise (.airWait false)) (State.progressUp_writes _)
      · exact .head (.raise (.airWait false)) (State.stall_writes _)

theorem State.lowerLoop_writes (s : State) : s.Writes s.lowerLoop.1 := by
  unfold State.lowerLoop
  split
  · exact .refl
  · split
    · exact State.progressDown_writes s
    · exact State.stall_writes s

theorem State.sampleAll_writes (s : State) : s.Writes s.sampleAll :=
  foldl_writes (fun _ h => .single (.raise (.hpc h _))) Hp.all s

theorem State.finishComps_writes (s : State) : s.Writes s.finishComps :=
  ((State.disableComps_writes s _).trans (State.enableComps_writes _ _)).trans
    (State.disableComp_writes _ .velocity)

theorem State.finishBalance_writes (s : State) : s.Writes s.finishBalance := by
  unfold State.finishBalance
  split
  · exact State.enableComp_writes s .balance
  · exact .single (.log _)

@[simp] theorem State.finishBalance_raise (s : State) : s.finishBalance.raise = s.raise := by
  unfold State.finishBalance
  split <;> rfl

/-- The registers of a completed raise (R350). -/
theorem State.raiseComplete_writes (s : State) :
    s.Writes (s.finishComps.finishBalance.setRaise
      { s.raise with pct := f64Hundred, deadline := f64NaN, rstate := .complete }) := by
  have hcomps := (State.finishComps_writes s).trans (State.finishBalance_writes _)
  have hraise : s.finishComps.finishBalance.raise = s.raise := State.finishBalance_raise _
  exact hcomps.tail (.raise (hraise ▸ .raised))

theorem State.timeOut_writes (s : State) : s.Writes s.timeOut :=
  (Relation.ReflTransGen.single (.raise .timedOut)).tail (.latch (timeoutFault_ne_noFault _) _ _)

theorem State.setPct_writes (s : State) {p : F64} (hp : PctWrite s.cfg.raise s.raise.pct p) :
    s.Writes (s.setPct p) := .single (.raise (.pct hp))

end Sys2Proof.Machine

/-! # Every instruction by its register writes (spec/10_state.md R393) -/

namespace Sys2Proof.Machine

/-! ## Codec, builder, transport -/

theorem codecGet_writes (buf : List Cell) (cur n : Nat) (mk : List Byte → CodecValue) (s : State) :
    Ends s s.Writes (codecGet buf cur n mk s) := by
  refine .gated ?_
  split
  · exact .done _ .refl
  · exact .refused _ (by decide)

theorem codecSet_writes (buf : List Cell) (cur : Nat) (bs : List Byte) (s : State) :
    Ends s s.Writes (codecSet buf cur bs s) := by
  refine .gated ?_
  split
  · exact .done _ .refl
  · exact .refused _ (by decide)

theorem execGetStr_writes (buf : List Cell) (cur : Nat) (s : State) :
    Ends s s.Writes (execGetStr buf cur s) := by
  refine .gated ?_
  split
  · exact .refused _ (by decide)
  · split
    · exact .refused _ (by decide)
    · split
      · exact .refused _ (by decide)
      · exact .done _ .refl

theorem execSetStr_writes (buf : List Cell) (cur : Nat) (v : List Byte) (s : State) :
    Ends s s.Writes (execSetStr buf cur v s) := by
  refine .gated ?_
  split
  · exact .refused _ (by decide)
  · split
    · exact .refused _ (by decide)
    · exact .done _ .refl

theorem execStartSubnet_writes (sub : Byte) (s : State) : Ends s s.Writes (execStartSubnet sub s) := by
  refine .gated ?_
  split
  · exact .refuse (by decide)
  · split
    · exact .refuse (by decide)
    · split
      · exact .refuse (by decide)
      · exact .done _ (.single (.tx _ _))

theorem execAppend_writes (sub a f : Byte) (args : AppendArgs) (s : State) :
    Ends s s.Writes (execAppend sub a f args s) := by
  refine .gated ?_
  split
  · exact .refuse (by decide)
  · dsimp only
    split
    · exact .refuse (by decide)
    · split
      · exact .refuse (by decide)
      · split
        · exact .refuse (by decide)
        · exact .done _ ((Relation.ReflTransGen.single (.tx _ _)).tail (.bump _ 1))

theorem execEndSubnet_writes (sub : Byte) (s : State) : Ends s s.Writes (execEndSubnet sub s) := by
  refine .gated ?_
  split
  · exact .refuse (by decide)
  · dsimp only
    split
    · exact .refuse (by decide)
    · split
      · exact .refuse (by decide)
      · exact .done _ (.single (.tx _ _))

theorem execSend_writes (sub : Byte) (s : State) : Ends s s.Writes (execSend sub s) := by
  refine .gated ?_
  split
  · exact .refuse (by decide)
  · dsimp only
    split
    · exact .refuse (by decide)
    · exact .done _ (.single (.txOut _))

theorem execWaitIrq_writes (sub : Byte) (irq : Bool) (rx : List Word16) (s : State) :
    Ends s s.Writes (execWaitIrq sub irq rx s) := by
  refine .gated ?_
  split
  · exact .refuse (by decide)
  · split
    · split
      · exact .refuse (by decide)
      · exact .done _ (.single (.rx _ rx))
    · exact .done _ (.single (.rx _ []))

/-! ## Parser and accounting -/

theorem execParse_writes (sub : Byte) (b : Option Byte) (s : State) :
    Ends s s.Writes (execParse sub b s) := by
  refine .gated ?_
  split
  · exact .refuse (by decide)
  · exact .done _ (State.parseBatch_writes s sub _)

theorem execReconcile_writes (ts : U64) (s : State) : Ends s s.Writes (execReconcile ts s) :=
  .gated (.done _ (State.reconcile_writes s ts))

theorem execValidateCrc_writes (b : Byte) (p : Nat) (s : State) :
    Ends s s.Writes (execValidateCrc b p s) := by
  refine .gated ?_
  split
  · exact .refuse (by decide)
  · split
    · exact .refuse (by decide)
    · exact .done _ .refl

theorem runResponse_writes (g sub a : Byte) (p : List Byte) (ts : U64) (s : State) :
    Ends s s.Writes (runResponse g sub a p ts s) :=
  .gated (.done _ (State.frameBody_writes s sub a g p ts))

theorem runOddFrame_writes (sub : Byte) (ts : U64) (body : List Byte) (s : State) :
    Ends s s.Writes (runOddFrame sub ts body s) :=
  .gated (.done _ (State.goodFrame_writes s sub body ts))

/-! ## Force pipeline -/

theorem onComp_writes (c : Byte) (s : State) {f : Comp → State} (hf : ∀ k, s.Writes (f k)) :
    Ends s s.Writes (onComp c s f) := by
  refine .gated ?_
  split
  · exact .refuse (by decide)
  · exact .done _ (hf _)

theorem execFcApply_writes (c : Byte) (x y z : List F32) (s : State) :
    Ends s s.Writes (execFcApply c x y z s) := by
  refine .gated ?_
  split
  · exact .refuse (by decide)
  · split
    · rename_i k _ ht
      exact .done _ (.single (.comp k (.apply _ ht)))
    · exact .refuse (by decide)

theorem execUpdateApplied_writes (s : State) : Ends s s.Writes (execUpdateApplied s) :=
  .gated (.done _ (foldl_writes State.updateActive_writes Comp.all s))

theorem execProcessApplied_writes (s : State) : Ends s s.Writes (execProcessApplied s) := by
  refine .gated ?_
  split
  · exact .done _ (State.processForces_writes s)
  · exact .refuse (by decide)

/-! ## Safety controller -/

theorem execNotify_writes (code : Byte) (b : Bool) (r : List Byte) (s : State) :
    Ends s s.Writes (execNotify code b r s) := by
  refine .gated ?_
  split
  · exact .refuse (by decide)
  · rename_i hc
    exact .done _ (.single (.latch (notifyCode_ne_noFault hc) b r))

theorem execNotifyIlcTimeout_writes (s : State) : Ends s s.Writes (execNotifyIlcTimeout s) :=
  .gated (.done _ ((Relation.ReflTransGen.single (.pushIlc _)).tail (.latch (by decide) _ _)))

theorem execNotifyFaFollowingError_writes (i : Nat) (b : Bool) (r : List Byte) (s : State) :
    Ends s s.Writes (execNotifyFaFollowingError i b r s) := by
  refine .gated ?_
  split
  · exact .refuse (by decide)
  · exact .done _ ((Relation.ReflTransGen.single (.pushFe i b)).tail (.latch (by decide) _ r))

theorem execNotifyHpMeasuredForce_writes (h : Byte) (b : Bool) (r : List Byte) (s : State) :
    Ends s s.Writes (execNotifyHpMeasuredForce h b r s) := by
  refine .gated ?_
  split
  · exact .refuse (by decide)
  · exact .done _ ((Relation.ReflTransGen.single (.pushHpf _ b)).tail (.latch (by decide) _ r))

theorem execNotifyHpAirPressure_writes (h : Byte) (b : Bool) (r : List Byte) (s : State) :
    Ends s s.Writes (execNotifyHpAirPressure h b r s) := by
  refine .gated ?_
  split
  · exact .refuse (by decide)
  · exact .done _ ((Relation.ReflTransGen.single (.pushHpa _ b)).tail (.latch (by decide) _ r))

theorem execCheckSafety_writes (preferred : Byte) (s : State) :
    Ends s s.Writes (execCheckSafety preferred s) := by
  refine .gated ?_
  split
  · exact .done _ .refl
  · exact .done _ (.single .enterFault)

/-! ## Raise and lower -/

/-- An operation that writes `PCT` alone (R358 to R361). -/
theorem setPct_ends {s : State} {p : F64} (hp : PctWrite s.cfg.raise s.raise.pct p) :
    Ends s s.Writes (whenReady s ((s.setPct p).done .none)) :=
  .gated (.done _ (State.setPct_writes s hp))

theorem execHpcSample_writes (h : Byte) (f : F32) (s : State) : Ends s s.Writes (execHpcSample h f s) := by
  refine .gated ?_
  split
  · exact .refuse (by decide)
  · exact .done _ (.single (.raise (.hpc _ _)))

theorem execHpcReset_writes (h : Byte) (s : State) : Ends s s.Writes (execHpcReset h s) := by
  refine .gated ?_
  split
  · exact .refuse (by decide)
  · exact .done _ (.single (.raise (.hpc _ _)))

theorem execHpcStatus_writes (h : Byte) (s : State) : Ends s s.Writes (execHpcStatus h s) := by
  refine .gated ?_
  split
  · exact .refuse (by decide)
  · exact .done _ .refl

theorem execRaiseStart_writes (bypass : Bool) (now : F64) (s : State) :
    Ends s s.Writes (execRaiseStart bypass now s) := by
  refine .gated ?_
  split
  · exact .refuse (by decide)
  · split
    · exact .refuse (by decide)
    · exact .done _ (((State.disableComps_writes s transferComps).trans
        (State.enableComp_writes _ .elevation)).tail (.raise (.startRaise bypass now)))

theorem execRaiseRunloop_writes (w : Bool) (s : State) : Ends s s.Writes (execRaiseRunloop w s) := by
  refine .gated ?_
  split
  · exact .done _ (State.raiseLoop_writes s w)
  · exact .refuse (by decide)

theorem execRaiseCheckComplete_writes (m : Bool) (s : State) :
    Ends s s.Writes (execRaiseCheckComplete m s) := by
  refine .gated ?_
  split
  · split
    · exact .done _ (State.sampleAll_writes s)
    · exact .done _ .refl
  · exact .refuse (by decide)

theorem execRaiseComplete_writes (s : State) : Ends s s.Writes (execRaiseComplete s) := by
  refine .gated ?_
  split
  · exact .done _ (State.raiseComplete_writes s)
  · exact .refuse (by decide)

theorem execCheckTimeout_writes (now : F64) (s : State) : Ends s s.Writes (execCheckTimeout now s) := by
  refine .gated (.done _ ?_)
  split
  · exact State.timeOut_writes s
  · exact .refl

theorem execTimeout_writes (s : State) : Ends s s.Writes (execTimeout s) := by
  refine .gated ?_
  split
  · exact .done _ (State.timeOut_writes s)
  · exact .refuse (by decide)

theorem execPause_writes (now : F64) (s : State) : Ends s s.Writes (execPause now s) := by
  refine .gated ?_
  split
  · exact .done _ (.single (.raise (.pause _)))
  · exact .refuse (by decide)

theorem execResume_writes (now : F64) (s : State) : Ends s s.Writes (execResume now s) := by
  refine .gated ?_
  split
  · exact .done _ (.single (.raise (.resume now)))
  · exact .refuse (by decide)

theorem execLowerStart_writes (now : F64) (s : State) : Ends s s.Writes (execLowerStart now s) := by
  refine .gated ?_
  split
  · exact .refuse (by decide)
  · split
    · exact .refuse (by decide)
    · exact .done _ ((State.disableComps_writes s transferComps).tail (.raise (.startLower now)))

theorem execLowerRunloop_writes (s : State) : Ends s s.Writes (execLowerRunloop s) := by
  refine .gated ?_
  split
  · exact .done _ (State.lowerLoop_writes s)
  · exact .refuse (by decide)

theorem execLowerCheckComplete_writes (s : State) : Ends s s.Writes (execLowerCheckComplete s) := by
  refine .gated ?_
  split
  · exact .done _ .refl
  · exact .refuse (by decide)

theorem execLowerComplete_writes (s : State) : Ends s s.Writes (execLowerComplete s) := by
  refine .gated ?_
  split
  · exact .done _ ((State.disableComps_writes s Comp.all).tail (.raise .lowered))
  · exact .refuse (by decide)

/-! ## Every instruction -/

/-- The instructions that wait for the block to be configured do register writes and no more. -/
theorem exec_writes_of_gated (i : Instr) (s : State) (hi : ungated i = false) :
    Ends s s.Writes (exec i s) := by
  cases i
  case reset | settingsLoad | mapBuild | pullTelemetry => cases hi
  case getU8 | getI8 | getU16 | getI16 | getU32 | getI32 | getU64 | getI64 | getF32 | getF64 =>
    exact codecGet_writes _ _ _ _ s
  case setU8 | setI8 | setU16 | setI16 | setU32 | setI32 | setU64 | setI64 | setF32 | setF64 =>
    exact codecSet_writes _ _ _ s
  case getStr buf cur => exact execGetStr_writes buf cur s
  case setStr buf cur v => exact execSetStr_writes buf cur v s
  case startSubnet sub => exact execStartSubnet_writes sub s
  case append sub a f args => exact execAppend_writes sub a f args s
  case endSubnet sub => exact execEndSubnet_writes sub s
  case send sub => exact execSend_writes sub s
  case waitIrq sub irq rx => exact execWaitIrq_writes sub irq rx s
  case parse sub b => exact execParse_writes sub b s
  case reconcile ts => exact execReconcile_writes ts s
  case validateCrc b p => exact execValidateCrc_writes b p s
  case fcEnable c => exact onComp_writes c s (State.enableComp_writes s)
  case fcDisable c | fcZero c => exact onComp_writes c s (State.disableComp_writes s)
  case fcUpdate c => exact onComp_writes c s (State.updateComp_writes s)
  case fcApply c x y z => exact execFcApply_writes c x y z s
  case updateApplied => exact execUpdateApplied_writes s
  case processApplied => exact execProcessApplied_writes s
  case notify code b r => exact execNotify_writes code b r s
  case notifyIlcTimeout => exact execNotifyIlcTimeout_writes s
  case notifyFaFollowingError k b r => exact execNotifyFaFollowingError_writes k b r s
  case notifyHpMeasuredForce h b r => exact execNotifyHpMeasuredForce_writes h b r s
  case notifyHpAirPressure h b r => exact execNotifyHpAirPressure_writes h b r s
  case checkSafety v => exact execCheckSafety_writes v s
  case clearError => exact .gated (.done _ (.single .clearLatch))
  case clearErrorCode => exact .gated (.done _ (.single .clearFaults))
  case raiseStart bypass now => exact execRaiseStart_writes bypass now s
  case raiseRunloop w => exact execRaiseRunloop_writes w s
  case raiseCheckComplete m => exact execRaiseCheckComplete_writes m s
  case raiseComplete => exact execRaiseComplete_writes s
  case checkTimeout now => exact execCheckTimeout_writes now s
  case timeout => exact execTimeout_writes s
  case pause now => exact execPause_writes now s
  case resume now => exact execResume_writes now s
  case rlReset => exact .gated (.done _ (.single (.raise .reset)))
  case lowerStart now => exact execLowerStart_writes now s
  case lowerRunloop => exact execLowerRunloop_writes s
  case lowerCheckComplete => exact execLowerCheckComplete_writes s
  case lowerComplete => exact execLowerComplete_writes s
  case spInc => exact setPct_ends .up
  case spDec => exact setPct_ends .down
  case spZero => exact setPct_ends .zero
  case spFill => exact setPct_ends .full
  case hpcSample h f => exact execHpcSample_writes h f s
  case hpcReset h => exact execHpcReset_writes h s
  case hpcStatus h => exact execHpcStatus_writes h s
  case crc16 | spFilled | spZeroed | faFeInTol | hpForcesInTol => exact .gated (.done _ .refl)
  all_goals exact runResponse_writes _ _ _ _ _ s

/-- What one step can do to the registers, `s` before it and `u` after it: register writes on a
configured block, or what one of R16's four instructions does. -/
inductive Effect (s u : State) : Prop where
  | writes (hr : s.ready = true) (h : s.Writes u)
  | mapBuilt {m : PerSubnet (List MapCell)} (hidle : s.configIdle = true)
      (hm : placeRows (PerSubnet.pure []) [] s.cfg.plant.actuatorTable = some m) (h : u = s.setMap m)
  | loaded {c : Cfg} (hidle : s.configIdle = true) (hc : cfgOk c = true) (h : u = s.loadCfg c)
  | telemetry (v : F64) (h : u = { s with elev := v, elevValid := true })
  | reset (h : u = s.resetAll)

theorem execMapBuild_effect (s : State) : Ends s (Effect s) (execMapBuild s) := by
  unfold execMapBuild
  split
  · exact .refuse (by decide)
  · rename_i hidle
    simp only [Bool.or_eq_true, Bool.not_eq_true', not_or, Bool.not_eq_false] at hidle
    split
    · exact .refuse (by decide)
    · rename_i hm
      exact .done _ (.mapBuilt hidle.2 hm rfl)

theorem execSettingsLoad_effect (c : Cfg) (s : State) : Ends s (Effect s) (execSettingsLoad c s) := by
  unfold execSettingsLoad
  split
  · exact .refuse (by decide)
  · rename_i hidle
    split
    · exact .refuse (by decide)
    · rename_i hok
      exact .done _ (.loaded (by simpa using hidle) (by simpa using hok) rfl)

/-- How any instruction ends, and what it may do to the registers. -/
theorem exec_effect (i : Instr) (s : State) : Ends s (Effect s) (exec i s) := by
  cases hi : ungated i with
  | false =>
    cases hr : s.ready with
    | true => exact (exec_writes_of_gated i s hi).mono fun _ => .writes hr
    | false => exact exec_of_not_ready hi hr ▸ .refuse (by decide)
  | true =>
    cases i
    case reset => exact .done _ (.reset rfl)
    case settingsLoad c => exact execSettingsLoad_effect c s
    case mapBuild => exact execMapBuild_effect s
    case pullTelemetry v => exact .done _ (.telemetry v rfl)
    all_goals cases hi

theorem runOddFrame_effect (sub : Byte) (ts : U64) (body : List Byte) (s : State) :
    Ends s (Effect s) (runOddFrame sub ts body s) := by
  cases hr : s.ready with
  | true => exact (runOddFrame_writes sub ts body s).mono fun _ => .writes hr
  | false =>
    unfold runOddFrame
    rw [whenReady_not_ready hr]
    exact .refused _ (by decide)

/-! ## Invariants of a step -/

/-- What makes `P` an invariant of every step, where `ok` is known of a loaded configuration: `P` is not
about the ports, every register write keeps it, and so does what R16's four instructions do. -/
structure StepKeeps (ok : Cfg → Prop) (P : State → Prop) : Prop where
  ports : ∀ {s : State} (r : Option Response) (q : List Input), P s → P { s with rsp := r, inputs := q }
  write : ∀ {s u : State}, ok s.cfg → P s → RegWrite s u → P u
  mapBuilt : ∀ {s : State} {m : PerSubnet (List MapCell)}, P s →
    placeRows (PerSubnet.pure []) [] s.cfg.plant.actuatorTable = some m → P (s.setMap m)
  loaded : ∀ {s : State} (c : Cfg), P s → P (s.loadCfg c)
  telemetry : ∀ {s : State} (v : F64), P s → P { s with elev := v, elevValid := true }
  reset : ∀ s : State, P s.resetAll

namespace StepKeeps

variable {ok : Cfg → Prop} {P : State → Prop} {s t : State}

theorem of_writes (h : StepKeeps ok P) {u : State} (hok : ok s.cfg) (hs : P s) (hw : s.Writes u) : P u := by
  induction hw with
  | refl => exact hs
  | tail hv hw ih =>
    exact h.write (State.Writes.cfg hv ▸ hok) ih hw

theorem of_effect (h : StepKeeps ok P) {u : State} (hok : s.cfgLoaded = true → ok s.cfg) (hs : P s)
    (he : Effect s u) : P u := by
  cases he with
  | writes hr hw => exact h.of_writes (hok ((ready_iff s).mp hr).1) hs hw
  | mapBuilt _ hm hu => exact hu ▸ h.mapBuilt hs hm
  | loaded _ _ hu => exact hu ▸ h.loaded _ hs
  | telemetry v hu => exact hu ▸ h.telemetry v hs
  | reset hu => exact hu ▸ h.reset s

theorem of_runInput (h : StepKeeps ok P) {x : Input} (hok : s.cfgLoaded = true → ok s.cfg) (hs : P s)
    (hrun : runInput x s = .next t) : P t := by
  have hresp : ∀ (u : State) (st : Status) (d : RspData), P u → P (u.respond st d) :=
    fun u st d hu => h.ports (some ⟨st, d⟩) u.inputs hu
  have hends : ∀ {o}, Ends s (Effect s) o → o = .next t → P t := fun ho heq =>
    (heq ▸ ho.mono fun u he => h.of_effect hok hs he).next_of hs hresp
  cases hdec : decodeInput x with
  | ok i =>
    rw [runInput_of_ok hdec] at hrun
    exact hends (exec_effect i s) hrun
  | error e =>
    rw [runInput_of_error hdec] at hrun
    rcases rejectInput_cases hrun with rfl | rfl | ⟨sub, ts, body, hodd⟩ | rfl
    · exact h.reset s
    · exact hs
    · exact hends (runOddFrame_effect sub ts body s) hodd
    · exact hresp s _ _ hs

/-- The induction of every invariant, packaged once. -/
theorem of_step (h : StepKeeps ok P) (hok : s.cfgLoaded = true → ok s.cfg) (hs : P s)
    (hstep : step s = .next t) : P t := by
  cases hin : s.inputs with
  | nil =>
    rw [step_of_empty hin] at hstep
    cases hstep
    exact hs
  | cons x rest =>
    rw [step_of_cons hin] at hstep
    exact h.of_runInput (s := { s with inputs := rest }) hok (h.ports s.rsp rest hs) hstep

end StepKeeps

end Sys2Proof.Machine

/-! # The order of the floats, and sums of values of one sign (spec/43_force_pipeline.md R267) -/

namespace Sys2Proof

namespace Fmt

-- One proof after another, as in Tests/Slice0.lean: in many threads at once they take too much memory.
set_option Elab.async false

variable (f : Fmt)

theorem inf_lt_signBit : f.inf < f.signBit := by
  unfold inf signBit
  rw [Nat.pow_add]
  exact Nat.mul_lt_mul_of_pos_right (Nat.sub_lt (Nat.two_pow_pos _) Nat.one_pos) (Nat.two_pow_pos _)

theorem roundMag_le_inf (n d : Nat) : f.roundMag n d ≤ f.inf := Nat.min_le_right _ _

variable {f} {a b c v m : Nat} {s : Bool}

theorem withSign_lt (hm : m ≤ f.inf) : f.withSign s m < 2 * f.signBit := by
  have := f.inf_lt_signBit
  unfold withSign
  split <;> omega

theorem mag_withSign (hm : m ≤ f.inf) : f.mag (f.withSign s m) = m := by
  have := f.inf_lt_signBit
  unfold mag withSign
  split
  · rw [Nat.add_mod_left, Nat.mod_eq_of_lt (by omega)]
  · exact Nat.mod_eq_of_lt (by omega)

theorem neg_withSign (hm : m ≤ f.inf) : f.neg (f.withSign s m) = s := by
  have := f.inf_lt_signBit
  unfold neg withSign
  cases s
  · exact decide_eq_false (by simp; omega)
  · exact decide_eq_true (by simp)

theorem isNaN_withSign (hm : m ≤ f.inf) : f.isNaN (f.withSign s m) = false := by
  rw [isNaN, mag_withSign hm]
  exact decide_eq_false (by omega)

theorem key_withSign (hm : m ≤ f.inf) : f.key (f.withSign s m) = if s then -(m : Int) else m := by
  rw [key, mag_withSign hm, neg_withSign hm]

theorem mag_le_inf (h : f.isNaN v = false) : f.mag v ≤ f.inf := by
  simpa [isNaN] using h

theorem le_iff : f.le a b = true ↔ f.isNaN a = false ∧ f.isNaN b = false ∧ f.key a ≤ f.key b := by
  simp [le, and_assoc]

theorem lt_iff : f.lt a b = true ↔ f.isNaN a = false ∧ f.isNaN b = false ∧ f.key a < f.key b := by
  simp [lt, and_assoc]

theorem le_of_lt (h : f.lt a b = true) : f.le a b = true := by
  obtain ⟨ha, hb, hk⟩ := lt_iff.mp h
  exact le_iff.mpr ⟨ha, hb, Int.le_of_lt hk⟩

theorem le_trans (hab : f.le a b = true) (hbc : f.le b c = true) : f.le a c = true := by
  obtain ⟨ha, _, h1⟩ := le_iff.mp hab
  obtain ⟨_, hc, h2⟩ := le_iff.mp hbc
  exact le_iff.mpr ⟨ha, hc, Int.le_trans h1 h2⟩

theorem le_of_not_lt (ha : f.isNaN a = false) (hb : f.isNaN b = false) (h : f.lt a b = false) :
    f.le b a = true := by
  refine le_iff.mpr ⟨hb, ha, Int.not_lt.mp fun hk => ?_⟩
  rw [lt_iff.mpr ⟨ha, hb, hk⟩] at h
  cases h

theorem key_zero : f.key 0 = 0 := by simp [key, mag]

/-- `0 ≤ v`: `v` is no NaN, and has the sign only where it is a zero. -/
theorem zero_le_iff : f.le 0 v = true ↔ f.isNaN v = false ∧ (f.neg v = true → f.mag v = 0) := by
  have hz : f.isNaN 0 = false := by simp [isNaN, mag]
  rw [le_iff, key_zero, key]
  cases hn : f.neg v <;> simp [hz]

theorem mag_le_of_le (ha : f.le 0 a = true) (hab : f.le a b = true) : f.mag a ≤ f.mag b := by
  obtain ⟨_, hneg⟩ := zero_le_iff.mp ha
  obtain ⟨_, _, hkey⟩ := le_iff.mp hab
  cases hn : f.neg a with
  | true =>
    rw [hneg hn]
    exact Nat.zero_le _
  | false =>
    have hb : f.key b ≤ f.mag b := by
      unfold key
      split <;> omega
    have ha' : f.key a = f.mag a := by simp [key, hn]
    omega

theorem units_of_mag_zero (h : f.mag v = 0) : f.units v = 0 := by simp [units, h]

theorem value_nonneg (h : f.le 0 v = true) : 0 ≤ f.value v := by
  obtain ⟨_, hneg⟩ := zero_le_iff.mp h
  unfold value
  cases hn : f.neg v
  · simp
  · simp [units_of_mag_zero (hneg hn)]

/-- An infinity that is not below zero is the positive one. -/
theorem neg_of_isInf (hpos : 0 < f.inf) (h : f.le 0 v = true) (hi : f.isInf v = true) :
    f.neg v = false := by
  have hmag : f.mag v = f.inf := by simpa [isInf] using hi
  refine Bool.eq_false_iff.mpr fun hn => ?_
  have := (zero_le_iff.mp h).2 hn
  omega

theorem zero_le_withSign (hm : m ≤ f.inf) (hs : s = true → m = 0) : f.le 0 (f.withSign s m) = true :=
  zero_le_iff.mpr ⟨isNaN_withSign hm, by rw [neg_withSign hm, mag_withSign hm]; exact hs⟩

/-- A sum of two values from zero up is from zero up. -/
theorem zero_le_add (hpos : 0 < f.inf) (nan : Nat) (ha : f.le 0 a = true) (hb : f.le 0 b = true)
    (hal : a < 2 * f.signBit) (hbl : b < 2 * f.signBit) :
    f.le 0 (f.add nan a b) = true ∧ f.add nan a b < 2 * f.signBit := by
  have hna := (zero_le_iff.mp ha).1
  have hnb := (zero_le_iff.mp hb).1
  unfold add
  rw [hna, hnb]
  simp only [Bool.or_self, Bool.false_eq_true, if_false]
  split
  · rename_i hia
    have hsign : (f.isInf b && f.neg a != f.neg b) = false := by
      cases hib : f.isInf b
      · rfl
      · simp [neg_of_isInf hpos ha hia, neg_of_isInf hpos hb hib]
    rw [hsign]
    exact ⟨ha, hal⟩
  · split
    · exact ⟨hb, hbl⟩
    · split
      · exact ⟨zero_le_withSign (Nat.zero_le _) fun _ => rfl, withSign_lt (Nat.zero_le _)⟩
      · have hk : ¬ f.value a + f.value b < 0 := by
          have := value_nonneg ha
          have := value_nonneg hb
          omega
        rw [decide_eq_false hk]
        exact ⟨zero_le_withSign (f.roundMag_le_inf _ _) nofun, withSign_lt (f.roundMag_le_inf _ _)⟩

theorem mag_negate (h : f.isNaN v = false) : f.mag (f.negate v) = f.mag v := mag_withSign (mag_le_inf h)

theorem neg_negate (h : f.isNaN v = false) : f.neg (f.negate v) = !f.neg v := neg_withSign (mag_le_inf h)

theorem value_negate (h : f.isNaN v = false) : f.value (f.negate v) = -f.value v := by
  have hu : f.units (f.negate v) = f.units v := by simp only [units, mag_negate h]
  simp only [value, neg_negate h, hu]
  cases f.neg v <;> simp

/-- A finite value from zero up does not grow when a value from zero up is taken from it. -/
theorem sub_le (hpos : 0 < f.inf) (nan : Nat) (ha : f.le 0 a = true) (hfin : f.mag a < f.inf)
    (hb : f.le 0 b = true) : f.le (f.sub nan a b) a = true ∧ f.sub nan a b < 2 * f.signBit := by
  have hna := (zero_le_iff.mp ha).1
  have hnb := (zero_le_iff.mp hb).1
  have hka : 0 ≤ f.key a := key_zero (f := f) ▸ (le_iff.mp ha).2.2
  have hia : f.isInf a = false := decide_eq_false (by omega)
  have hnn : f.isNaN (f.negate b) = false := isNaN_withSign (mag_le_inf hnb)
  unfold sub add
  rw [hna, hnb, hnn, hia]
  simp only [Bool.or_self, Bool.false_eq_true, if_false]
  have hround (sg : Bool) (m : Nat) (hm : m ≤ f.inf) (hle : (if sg then -(m : Int) else m) ≤ f.key a) :
      f.le (f.withSign sg m) a = true ∧ f.withSign sg m < 2 * f.signBit :=
    ⟨le_iff.mpr ⟨isNaN_withSign hm, hna, (key_withSign hm).trans_le hle⟩, withSign_lt hm⟩
  split
  · rename_i hib
    have hib' : f.isInf b = true := by rw [isInf, mag_negate hnb] at hib; exact hib
    refine hround _ _ (mag_le_inf hnb) ?_
    rw [neg_of_isInf hpos hb hib']
    simp only [Bool.not_false, if_true]
    omega
  · rw [value_negate hnb]
    have hvb := value_nonneg hb
    split
    · exact hround _ _ (Nat.zero_le _) (by split <;> simpa using hka)
    · refine hround _ _ (f.roundMag_le_inf _ _) ?_
      by_cases hk : f.value a + -f.value b < 0
      · simp only [decide_eq_true hk, if_true]
        omega
      · have hneg : f.neg a = false := by
          refine Bool.eq_false_iff.mpr fun hn => ?_
          have : f.value a = 0 := by simp [value, units_of_mag_zero ((zero_le_iff.mp ha).2 hn)]
          omega
        have hva : f.value a = f.units a := by simp [value, hneg]
        have hkey : f.key a = f.mag a := by simp [key, hneg]
        have hmono := roundMag_mono f (n := (f.value a + -f.value b).natAbs) (m := f.units a) (by omega)
        rw [roundMag_units f hfin] at hmono
        simp only [decide_eq_false hk, Bool.false_eq_true, if_false, hkey]
        omega

end Fmt

/-! ## binary64 -/

theorem b64_signBit : 2 * b64.signBit = 2 ^ 64 := by decide

theorem b64_inf_pos : 0 < b64.inf := by decide

theorem f64_toNat_lt (a : F64) : a.toNat < 2 * b64.signBit := b64_signBit ▸ a.isLt

theorem f64_toNat_ofNat {n : Nat} (h : n < 2 * b64.signBit) : (BitVec.ofNat 64 n).toNat = n := by
  rw [BitVec.toNat_ofNat]
  exact Nat.mod_eq_of_lt (b64_signBit ▸ h)

theorem f64Le_trans {a b c : F64} (hab : f64Le a b = true) (hbc : f64Le b c = true) : f64Le a c = true :=
  Fmt.le_trans hab hbc

theorem f64Le_of_lt {a b : F64} (h : f64Lt a b = true) : f64Le a b = true := Fmt.le_of_lt h

theorem f64Le_not_nan {a b : F64} (h : f64Le a b = true) : f64IsNaN a = false ∧ f64IsNaN b = false :=
  ⟨(Fmt.le_iff.mp h).1, (Fmt.le_iff.mp h).2.1⟩

theorem f64Le_of_not_lt {a b : F64} (ha : f64IsNaN a = false) (hb : f64IsNaN b = false)
    (h : ¬ f64Lt a b = true) : f64Le b a = true := Fmt.le_of_not_lt ha hb (Bool.eq_false_iff.mpr h)

theorem f64Add_nonneg {a b : F64} (ha : f64Le 0 a = true) (hb : f64Le 0 b = true) :
    f64Le 0 (f64Add a b) = true := by
  obtain ⟨hle, hlt⟩ := Fmt.zero_le_add b64_inf_pos (nan64Of (Config.nan64 .add a b)) ha hb
    (f64_toNat_lt a) (f64_toNat_lt b)
  unfold f64Le f64Add
  rw [f64_toNat_ofNat hlt]
  exact hle

theorem f64Sub_le {a b : F64} (ha : f64Le 0 a = true) (hfin : f64IsFinite a = true)
    (hb : f64Le 0 b = true) : f64Le (f64Sub a b) a = true := by
  obtain ⟨hle, hlt⟩ := Fmt.sub_le b64_inf_pos (nan64Of (Config.nan64 .sub a b)) ha
    (of_decide_eq_true hfin) hb
  unfold f64Le f64Sub
  rw [f64_toNat_ofNat hlt]
  exact hle

/-- `min` answers one of its operands, and no greater one than the first. -/
theorem f64Min_cases {a b : F64} (ha : f64IsNaN a = false) (hb : f64IsNaN b = false) :
    f64Min a b = a ∨ (f64Min a b = b ∧ f64Le b a = true) := by
  unfold f64Min
  split
  · exact .inr ⟨rfl, f64Le_of_lt ‹_›⟩
  · split
    · exact .inl rfl
    · rename_i hab
      rw [Bool.or_eq_true, not_or] at hab
      split
      · exact .inr ⟨rfl, f64Le_of_not_lt ha hb hab.1⟩
      · exact .inl rfl

/-- `max` answers one of its operands, and no smaller one than the first. -/
theorem f64Max_cases {a b : F64} (ha : f64IsNaN a = false) (hb : f64IsNaN b = false) :
    f64Max a b = a ∨ (f64Max a b = b ∧ f64Le a b = true) := by
  unfold f64Max
  split
  · exact .inr ⟨rfl, f64Le_of_lt ‹_›⟩
  · split
    · exact .inl rfl
    · rename_i hab
      rw [Bool.or_eq_true, not_or] at hab
      split
      · exact .inr ⟨rfl, f64Le_of_not_lt hb ha hab.1⟩
      · exact .inl rfl

end Sys2Proof

/-! # What a register write leaves of the banks and of FRAME (spec/10_state.md R20, R28 to R35) -/

namespace Sys2Proof

/-- A bank whose values all meet `p` still does after one of them is written with a value that does. -/
theorem PerSubnet.forall_get_set {α : Type} {p : α → Prop} {b : PerSubnet α} (n : Subnet) {v : α}
    (hb : ∀ m, p (b.get m)) (hv : p v) (m : Subnet) : p ((b.set n v).get m) := by
  rw [PerSubnet.get_set]
  split
  · exact hv
  · exact hb m

theorem PerComp.forall_get_set {α : Type} {p : α → Prop} {b : PerComp α} (k : Comp) {v : α}
    (hb : ∀ j, p (b.get j)) (hv : p v) (j : Comp) : p ((b.set k v).get j) := by
  rw [PerComp.get_set]
  split
  · exact hv
  · exact hb j

theorem PerHp.forall_get_set {α : Type} {p : α → Prop} {b : PerHp α} (h : Hp) {v : α}
    (hb : ∀ j, p (b.get j)) (hv : p v) (j : Hp) : p ((b.set h v).get j) := by
  rw [PerHp.get_set]
  split
  · exact hv
  · exact hb j

end Sys2Proof

namespace Sys2Proof.Machine

/-- A counter written: nothing of FRAME but the counters, and their number stays. -/
theorem FrameUnit.updateExpect_eq (u : FrameUnit) (t : ActType) (i : Nat) (f : I32 → I32) :
    ∃ fa hp hm, fa.length = u.expectFa.length ∧
      u.updateExpect t i f = { u with expectFa := fa, expectHp := hp, expectHm := hm } := by
  cases t with
  | unknown => exact ⟨_, _, _, rfl, rfl⟩
  | forceActuator => exact ⟨_, _, _, modifyAt_length _ i f, rfl⟩
  | hardpoint | hardpointMonitor =>
    unfold FrameUnit.updateExpect
    dsimp only
    split <;> exact ⟨_, _, _, rfl, rfl⟩

theorem FrameUnit.modifyExpect_eq (u : FrameUnit) (t : ActType) (v : I32) (f : I32 → I32) :
    ∃ fa hp hm, fa.length = u.expectFa.length ∧
      u.modifyExpect t v f = { u with expectFa := fa, expectHp := hp, expectHm := hm } := by
  unfold FrameUnit.modifyExpect
  split
  · exact ⟨_, _, _, rfl, rfl⟩
  · exact FrameUnit.updateExpect_eq u t _ f

/-- One slot written: nothing of FRAME but `AFS`, its length kept, and `HPS`. -/
theorem FrameUnit.writeSlot_eq (u : FrameUnit) (t : ActType) (i : Nat) (w : SlotWrite) :
    ∃ afs hps, afs.length = u.afs.length ∧ u.writeSlot t i w = { u with afs := afs, hps := hps } := by
  unfold FrameUnit.writeSlot
  split
  · exact ⟨_, _, modifyAt_length _ i _, rfl⟩
  · exact ⟨_, _, modifyAt_length _ i _, rfl⟩
  · split <;> exact ⟨_, _, rfl, rfl⟩
  · exact ⟨_, _, rfl, rfl⟩

theorem FrameUnit.foldl_writeSlot_eq (t : ActType) (i : Nat) (ws : List SlotWrite) (u : FrameUnit) :
    ∃ afs hps, afs.length = u.afs.length ∧
      ws.foldl (fun v w => v.writeSlot t i w) u = { u with afs := afs, hps := hps } := by
  induction ws generalizing u with
  | nil => exact ⟨_, _, rfl, rfl⟩
  | cons w ws ih =>
    obtain ⟨afs, hps, hlen, hw⟩ := FrameUnit.writeSlot_eq u t i w
    rw [List.foldl_cons, hw]
    obtain ⟨afs', hps', hlen', hws⟩ := ih { u with afs := afs, hps := hps }
    exact ⟨afs', hps', hlen'.trans hlen, hws⟩

/-- An update written: nothing of FRAME but `AFS`, its length kept, and `HPS` (R215, R217). -/
theorem FrameUnit.writeUpdate_eq (u : FrameUnit) (c : Cfg) (e : IlcEntry) (ws : List SlotWrite) :
    ∃ afs hps, afs.length = u.afs.length ∧ u.writeUpdate c e ws = { u with afs := afs, hps := hps } := by
  unfold FrameUnit.writeUpdate
  split
  · exact ⟨_, _, rfl, rfl⟩
  · rename_i i _
    obtain ⟨afs, hps, hlen, hws⟩ := FrameUnit.foldl_writeSlot_eq e.type i ws u
    rw [hws]
    dsimp only
    split
    · exact ⟨_, _, (modifyAt_length _ i _).trans hlen, rfl⟩
    · exact ⟨_, _, hlen, rfl⟩

/-- What a register write can do to the registers of FRAME that last from one response to the next: the
map, the warning and the lengths of the arrays. -/
theorem RegWrite.frame_cases {s u : State} (h : RegWrite s u) :
    u.frame.ilcMap = s.frame.ilcMap ∧ u.frame.afs.length = s.frame.afs.length ∧
      u.frame.expectFa.length = s.frame.expectFa.length ∧
      (u.frame.ilcWarn = s.frame.ilcWarn ∨
        ∃ c id ts, u.frame.ilcWarn = s.frame.ilcWarn.raise c id ts) := by
  cases h with
  | warn c id ts => exact ⟨rfl, rfl, rfl, .inr ⟨c, id, ts, rfl⟩⟩
  | bump e d =>
    obtain ⟨_, _, _, hlen, he⟩ := s.frame.modifyExpect_eq e.type e.dataIndex (fun v => v + d)
    rw [State.bumpExpect_frame, he]
    exact ⟨rfl, rfl, hlen, .inl rfl⟩
  | zeroExpect t i =>
    obtain ⟨_, _, _, hlen, he⟩ := s.frame.updateExpect_eq t i (fun _ => 0)
    dsimp only
    rw [he]
    exact ⟨rfl, rfl, hlen, .inl rfl⟩
  | slots e ws =>
    obtain ⟨_, _, hlen, he⟩ := s.frame.writeUpdate_eq s.cfg e ws
    dsimp only
    rw [he]
    exact ⟨rfl, hlen, rfl, .inl rfl⟩
  | latch _ b r =>
    rw [State.notify_frame]
    exact ⟨rfl, rfl, rfl, .inl rfl⟩
  | _ => exact ⟨rfl, rfl, rfl, .inl rfl⟩

end Sys2Proof.Machine

/-! # The ILC map: its form and its ownership (spec/10_state.md R28, spec/42_frame_parse.md R210) -/

namespace Sys2Proof.Machine

/-- The part of `MapInv` that is about the map alone. -/
structure MapForm (m : PerSubnet (List MapCell)) : Prop where
  wf : ∀ n, mapWf (m.get n) = true
  address : ∀ n c, c ∈ m.get n → c.address ≤ 254
  owner : ∀ n k c d, c ∈ m.get n → d ∈ m.get k → c.entry.actuatorId = d.entry.actuatorId → n = k ∧ c = d

theorem mapInv_iff (s : State) :
    MapInv s ↔ MapForm s.frame.ilcMap ∧ (s.mapBuilt = false → ∀ n, s.frame.ilcMap.get n = []) :=
  ⟨fun ⟨hwf, haddr, hempty, howner⟩ => ⟨⟨hwf, haddr, howner⟩, hempty⟩,
    fun ⟨⟨hwf, haddr, howner⟩, hempty⟩ => ⟨hwf, haddr, hempty, howner⟩⟩

theorem mapForm_empty : MapForm (PerSubnet.pure []) where
  wf n := by rw [PerSubnet.get_pure]; rfl
  address n c hc := by rw [PerSubnet.get_pure] at hc; cases hc
  owner n k c d hc := by rw [PerSubnet.get_pure] at hc; cases hc

/-- The cells of a map with a row placed in it. -/
theorem mem_set_mapInsert {m : PerSubnet (List MapCell)} {n k : Subnet} {a : Nat} {e : IlcEntry}
    {c : MapCell} (h : c ∈ (m.set n (mapInsert (m.get n) a e)).get k) :
    (k = n ∧ c = ⟨a, e⟩) ∨ c ∈ m.get k := by
  rw [PerSubnet.get_set] at h
  split at h
  · rename_i hnk
    subst hnk
    exact (mem_mapInsert h).imp_left fun hc => ⟨rfl, hc⟩
  · exact .inr h

/-- A row placed keeps the form: its actuator owns no cell yet. `ids` are the actuators placed so far. -/
theorem placeRow_form {m m' : PerSubnet (List MapCell)} {ids : List I32} {r : ActuatorRow}
    (hm : MapForm m) (hids : ∀ n c, c ∈ m.get n → c.entry.actuatorId ∈ ids)
    (h : placeRow m ids r = some m') :
    MapForm m' ∧ ∀ n c, c ∈ m'.get n → c.entry.actuatorId ∈ r.entry.actuatorId :: ids := by
  obtain ⟨n, _, haddr, _, hnew, htype, rfl⟩ := placeRow_eq_some h
  refine ⟨⟨?_, ?_, ?_⟩, ?_⟩
  · exact PerSubnet.forall_get_set (p := fun l => mapWf l = true) n hm.wf
      (mapWf_mapInsert _ (hm.wf n) htype)
  · intro k c hc
    rcases mem_set_mapInsert hc with ⟨_, rfl⟩ | hc
    · exact haddr
    · exact hm.address k c hc
  · intro k l c d hc hd hid
    rcases mem_set_mapInsert hc with ⟨hk, hcn⟩ | hco <;> rcases mem_set_mapInsert hd with ⟨hl, hdn⟩ | hdo
    · exact ⟨hk.trans hl.symm, hcn.trans hdn.symm⟩
    · exact absurd (hids l d hdo) (by rwa [← hid, hcn])
    · exact absurd (hids k c hco) (by rwa [hid, hdn])
    · exact hm.owner k l c d hco hdo hid
  · intro k c hc
    rcases mem_set_mapInsert hc with ⟨_, rfl⟩ | hc
    · exact List.mem_cons_self
    · exact List.mem_cons_of_mem _ (hids k c hc)

theorem placeRows_form {rows : List ActuatorRow} {m m' : PerSubnet (List MapCell)} {ids : List I32}
    (hm : MapForm m) (hids : ∀ n c, c ∈ m.get n → c.entry.actuatorId ∈ ids)
    (h : placeRows m ids rows = some m') : MapForm m' := by
  induction rows generalizing m ids with
  | nil => exact Option.some.inj h ▸ hm
  | cons r rows ih =>
    rw [placeRows] at h
    split at h
    · cases h
    · rename_i hr
      obtain ⟨hm1, hids1⟩ := placeRow_form hm hids hr
      exact ih hm1 hids1 h

theorem mapInv_of_empty {s : State} (h : s.frame.ilcMap = PerSubnet.pure []) : MapInv s :=
  (mapInv_iff s).mpr ⟨h ▸ mapForm_empty, fun _ n => by rw [h, PerSubnet.get_pure]⟩

theorem mapInv_stepKeeps : StepKeeps (fun _ => True) MapInv where
  ports _ _ h := h
  write _ h hw := by
    obtain ⟨hmap, _⟩ := hw.frame_cases
    rw [mapInv_iff, hmap, hw.mapBuilt]
    exact (mapInv_iff _).mp h
  mapBuilt _ hm := (mapInv_iff _).mpr
    ⟨placeRows_form mapForm_empty (fun n c hc => by rw [PerSubnet.get_pure] at hc; cases hc) hm, nofun⟩
  loaded _ _ := mapInv_of_empty rfl
  telemetry _ h := h
  reset _ := mapInv_of_empty rfl

/-- Settles O9: the map is written by `MAP_BUILD`, whose rows keep its form one by one, and emptied by
`SETTINGS_LOAD` and a reset. -/
theorem mapKept : Obligations.MapKept := by
  unfold Obligations.MapKept
  exact fun s t hs hstep => mapInv_stepKeeps.of_step (fun _ => trivial) hs hstep

end Sys2Proof.Machine

/-! # Roll-ups and the latch (spec/10_state.md R35, R44, R45, R50, R51) -/

namespace Sys2Proof.Machine

/-- The warning part of `RollUpInv`. -/
def IlcWarn.rolledUp (w : IlcWarn) : Prop := w.causes.countP id ≤ 1 ∧ w.anyWarning = w.causes.any id

theorem IlcWarn.rolledUp_raise (w : IlcWarn) (c : Cause) (id : I32) (ts : U64) :
    (w.raise c id ts).rolledUp := by
  obtain ⟨hcount, hroll, hany⟩ := raise_causes w c id ts
  exact ⟨Nat.le_of_eq hcount, hroll.trans hany.symm⟩

theorem RegWrite.rolledUp {s u : State} (h : RegWrite s u) (hs : s.frame.ilcWarn.rolledUp) :
    u.frame.ilcWarn.rolledUp := by
  obtain ⟨_, _, _, hw | ⟨c, id, ts, hw⟩⟩ := h.frame_cases
  · exact hw ▸ hs
  · exact hw ▸ IlcWarn.rolledUp_raise _ c id ts

/-- `anyClip` of a component is the OR of its clip flags (R44). -/
def Component.rolledUp (v : Component) : Prop := v.anyClip = anyFlag v.clipWarn

theorem anyFlag_map_false {α : Type} (t : Tri α) : anyFlag (t.map (fun _ => false)) = false := by
  simp [anyFlag, Tri.any, Tri.map]

theorem anyFlag_fill_false (c : PlantCfg) : anyFlag (Tri.fill c false) = false := by
  simp [anyFlag, Tri.any, Tri.fill]

theorem CompWrite.rolledUp {c : Cfg} {k : Comp} {v w : Component} (h : CompWrite c k v w)
    (hv : v.rolledUp) : w.rolledUp := by
  cases h with
  | enable => exact hv
  | disable => rwa [Component.rolledUp, disable_anyClip, disable_clipWarn]
  | apply => exact hv
  | rampEnd => exact (anyFlag_map_false _).symm
  | update => rfl

theorem RollUpInv.of_registers {s u : State} (h : RollUpInv s) (hw : u.frame.ilcWarn.rolledUp)
    (hforce : u.force = s.force) : RollUpInv u := by
  obtain ⟨_, _, hfc, hfin⟩ := h
  exact ⟨hw.1, hw.2, hforce ▸ hfc, hforce ▸ hfin⟩

theorem rollUpInv_init {s : State} {c : Cfg} (hf : s.frame = FrameUnit.init c)
    (hc : s.force = ForceUnit.init c) : RollUpInv s := by
  unfold RollUpInv
  rw [hf, hc]
  refine ⟨Nat.zero_le 1, rfl, fun k => ?_, (anyFlag_fill_false _).symm⟩
  rw [ForceUnit.init, PerComp.get_pure]
  exact (anyFlag_fill_false _).symm

/-- Every write of a clip flag writes its roll-up with it, and every warning its own. -/
theorem RollUpInv.write {s u : State} (h : RollUpInv s) (hw : RegWrite s u) : RollUpInv u := by
  have ⟨hcount, hroll, _⟩ := h
  have hwarn : u.frame.ilcWarn.rolledUp := hw.rolledUp ⟨hcount, hroll⟩
  cases hw with
  | comp k hv =>
    obtain ⟨_, _, hfc, hfin⟩ := h
    exact ⟨hcount, hroll, PerComp.forall_get_set (p := Component.rolledUp) k hfc (hv.rolledUp (hfc k)), hfin⟩
  | finalClip =>
    obtain ⟨_, _, hfc, _⟩ := h
    exact ⟨hcount, hroll, hfc, rfl⟩
  | latch _ b r => exact h.of_registers hwarn (State.notify_force s _ b r)
  | warn | bump | zeroExpect | slots => exact h.of_registers hwarn rfl
  | _ => exact h

theorem rollUpInv_stepKeeps : StepKeeps (fun _ => True) RollUpInv where
  ports _ _ h := h
  write _ h hw := h.write hw
  mapBuilt h _ := h
  loaded _ _ := rollUpInv_init rfl rfl
  telemetry _ h := h
  reset _ := rollUpInv_init rfl rfl

/-- Settles O12: a warning sets one cause and its roll-up, a clip its flags and theirs. -/
theorem rollUpsKept : Obligations.RollUpsKept := by
  unfold Obligations.RollUpsKept
  exact fun s t hs hstep => rollUpInv_stepKeeps.of_step (fun _ => trivial) hs hstep

/-! ## The latch -/

theorem errorReg_ok_init (c : SafetyCfg) : ErrorReg.init.ok c := .inl rfl

/-- `notify` latches an enabled code alone, with its report cut (R312). -/
theorem LatchInv.notify {s : State} (h : LatchInv s) {c : FaultCode} (hc : c ≠ .noFault) (b : Bool)
    (r : List Byte) : LatchInv (s.notify c b r) := by
  rcases notify_cases s c b r with ⟨henabled, _, _, heq⟩ | ⟨_, heq⟩
  · rw [heq]
    exact ⟨.inr ⟨hc, henabled, List.length_take_le _ _⟩, h.2⟩
  · rwa [heq]

theorem LatchInv.write {s u : State} (h : LatchInv s) (hw : RegWrite s u) : LatchInv u := by
  cases hw with
  | latch hc b r => exact h.notify hc b r
  | enterFault => exact ⟨errorReg_ok_init _, h.1⟩
  | clearLatch => exact ⟨errorReg_ok_init _, h.2⟩
  | clearFaults => exact ⟨errorReg_ok_init _, errorReg_ok_init _⟩
  | _ => exact h

theorem latchInv_stepKeeps : StepKeeps (fun _ => True) LatchInv where
  ports _ _ h := h
  write _ h hw := h.write hw
  mapBuilt h _ := h
  loaded _ _ := ⟨errorReg_ok_init _, errorReg_ok_init _⟩
  telemetry _ h := h
  reset _ := ⟨errorReg_ok_init _, errorReg_ok_init _⟩

/-- Settles O13: the latch is written by `notify` alone and copied by `CHECK_SAFETY`; the rest clears. -/
theorem latchKept : Obligations.LatchKept := by
  unfold Obligations.LatchKept
  exact fun s t hs hstep => latchInv_stepKeeps.of_step (fun _ => trivial) hs hstep

end Sys2Proof.Machine

/-! # Sizes of the arrays and windows (spec/10_state.md R32, R43, R45, R52, R53) -/

namespace Sys2Proof.Machine

/-! ## Triples in the shape of R43 -/

theorem Tri.shaped_fill {α : Type} (c : PlantCfg) (v : α) : Tri.shaped c (Tri.fill c v) = true :=
  (Tri.shaped_iff c _).mpr ⟨List.length_replicate, List.length_replicate, List.length_replicate⟩

theorem Tri.shaped_map {α β : Type} {c : PlantCfg} {t : Tri α} (f : α → β) (h : Tri.shaped c t = true) :
    Tri.shaped c (t.map f) = true := by
  simpa [Tri.shaped_iff, Tri.map] using h

theorem Tri.shaped_zipWith {α β γ : Type} {c : PlantCfg} {t : Tri α} {v : Tri β} (f : α → β → γ)
    (ht : Tri.shaped c t = true) (hv : Tri.shaped c v = true) :
    Tri.shaped c (Tri.zipWith f t v) = true := by
  obtain ⟨htx, hty, htz⟩ := (Tri.shaped_iff c t).mp ht
  obtain ⟨hvx, hvy, hvz⟩ := (Tri.shaped_iff c v).mp hv
  simp [Tri.shaped_iff, Tri.zipWith, htx, hty, htz, hvx, hvy, hvz]

theorem limitsOk_shaped {c : PlantCfg} {l : Limits} (h : limitsOk c l = true) :
    Tri.shaped c l.low = true ∧ Tri.shaped c l.high = true := by
  obtain ⟨hlow, hhigh, _⟩ := limitsOk_pairs h
  exact ⟨(Tri.shaped_iff c _).mpr hlow, (Tri.shaped_iff c _).mpr hhigh⟩

theorem clampTri_shaped {c : PlantCfg} {l : Limits} {t : Tri F32} (hl : limitsOk c l = true)
    (ht : Tri.shaped c t = true) : Tri.shaped c (clampTri l t) = true := by
  obtain ⟨hlow, hhigh⟩ := limitsOk_shaped hl
  exact Tri.shaped_zipWith _ ht (Tri.shaped_zipWith _ hlow hhigh)

theorem targetsOk_shaped {c : Cfg} {t : Tri F32} (h : targetsOk c t = true) :
    Tri.shaped c.plant t = true := by
  rw [targetsOk, Bool.and_eq_true] at h
  obtain ⟨hshape, _⟩ := h
  exact hshape

theorem cfgOk_limits {c : Cfg} (h : cfgOk c = true) :
    (∀ k, limitsOk c.plant (c.force.limits.get k) = true) ∧ limitsOk c.plant c.force.finalLimits = true := by
  simp only [cfgOk, Bool.and_eq_true] at h
  obtain ⟨⟨⟨_, hforce⟩, _⟩, _⟩ := h
  obtain ⟨hlim, hfin, _⟩ := forceOk_tables hforce
  exact ⟨hlim, hfin⟩

theorem cfgOk_windows {c : Cfg} (h : cfgOk c = true) :
    1 ≤ c.safety.winPeriod.ilc ∧ 1 ≤ c.safety.winPeriod.fe ∧ 1 ≤ c.safety.winPeriod.hpf ∧
      1 ≤ c.safety.winPeriod.hpa := by
  simp only [cfgOk, Bool.and_eq_true] at h
  obtain ⟨⟨_, hsafety⟩, _⟩ := h
  exact (safetyOk_iff _).mp hsafety

/-! ## FORCE -/

theorem Component.shaped_init (c : Cfg) : (Component.init c).shaped c.plant :=
  ⟨Tri.shaped_fill _ _, Tri.shaped_fill _ _, Tri.shaped_fill _ _, Tri.shaped_fill _ _, Tri.shaped_fill _ _,
    Tri.shaped_fill _ _⟩

theorem Component.shaped_walk {c : PlantCfg} {v : Component} (h : v.shaped c) (r : F32) :
    (v.walk r).shaped c := by
  obtain ⟨hcur, htgt, hrest⟩ := h
  exact ⟨Tri.shaped_zipWith _ hcur htgt, htgt, hrest⟩

theorem Component.shaped_disable {c : PlantCfg} {v : Component} (h : v.shaped c) : v.disable.shaped c := by
  rcases disable_cases v with ⟨_, hd⟩ | ⟨_, hd⟩
  · obtain ⟨hcur, htgt, hrest⟩ := h
    exact hd ▸ ⟨hcur, Tri.shaped_map _ htgt, hrest⟩
  · rwa [hd]

theorem Component.shaped_finishRamp {c : PlantCfg} {v : Component} (h : v.shaped c) :
    v.finishRamp.shaped c := by
  obtain ⟨hcur, htgt, hoff, _⟩ := h
  exact ⟨Tri.shaped_map _ hcur, htgt, hoff, Tri.shaped_map _ hcur, Tri.shaped_map _ hcur,
    Tri.shaped_map _ hcur⟩

theorem Component.shaped_clip {c : PlantCfg} {v : Component} {l : Limits} (h : v.shaped c)
    (hl : limitsOk c l = true) : (v.clip l).shaped c := by
  obtain ⟨hcur, htgt, hoff, _⟩ := h
  have happ : Tri.shaped c (clampTri l v.current) = true := clampTri_shaped hl hcur
  exact ⟨happ, htgt, hoff, hcur, happ, Tri.shaped_zipWith _ happ hcur⟩

theorem CompWrite.shaped {c : Cfg} {k : Comp} {v w : Component} (h : CompWrite c k v w)
    (hl : limitsOk c.plant (c.force.limits.get k) = true) (hv : v.shaped c.plant) : w.shaped c.plant := by
  cases h with
  | enable => exact hv
  | disable => exact Component.shaped_disable hv
  | apply t ht =>
    obtain ⟨hcur, _, hrest⟩ := hv
    exact ⟨hcur, targetsOk_shaped ht, hrest⟩
  | rampEnd => exact Component.shaped_finishRamp (Component.shaped_walk hv _)
  | update => exact Component.shaped_clip (Component.shaped_walk hv _) hl

/-- The part of `ArraySizes` that is about the final stage (R45). -/
def FinalStage.shaped (c : PlantCfg) (v : FinalStage) : Prop :=
  Tri.shaped c v.preclipped = true ∧ Tri.shaped c v.applied = true ∧ Tri.shaped c v.clipWarn = true ∧
    v.primarySet.length = c.nFA ∧ v.secondarySet.length = c.nFA

theorem FinalStage.shaped_init (c : Cfg) : (FinalStage.init c).shaped c.plant :=
  ⟨Tri.shaped_fill _ _, Tri.shaped_fill _ _, Tri.shaped_fill _ _, List.length_replicate,
    List.length_replicate⟩

theorem sumActive_shaped {c : Cfg} {fc : PerComp Component} (h : ∀ k, (fc.get k).shaped c.plant) :
    Tri.shaped c.plant (sumActive c fc) = true :=
  List.foldlRecOn _ _ (motive := fun t => Tri.shaped c.plant t = true) (Tri.shaped_fill _ _)
    fun _ ht k _ => Tri.shaped_zipWith _ ht (h k).1

/-- The part of `ArraySizes` that is about FORCE. -/
def ForceUnit.shaped (c : PlantCfg) (v : ForceUnit) : Prop :=
  (∀ k, (v.fc.get k).shaped c) ∧ v.fin.shaped c

theorem ForceUnit.shaped_init (c : Cfg) : (ForceUnit.init c).shaped c.plant :=
  ⟨fun k => by rw [ForceUnit.init, PerComp.get_pure]; exact Component.shaped_init c,
    FinalStage.shaped_init c⟩

theorem RegWrite.force_shaped {s u : State} (h : RegWrite s u) (hok : cfgOk s.cfg = true)
    (hs : s.force.shaped s.cfg.plant) : u.force.shaped s.cfg.plant := by
  obtain ⟨hlim, hfinal⟩ := cfgOk_limits hok
  obtain ⟨hfc, hfin⟩ := hs
  cases h with
  | comp k hv => exact ⟨PerComp.forall_get_set k hfc (hv.shaped (hlim k) (hfc k)), hfin⟩
  | sumForces => exact ⟨hfc, sumActive_shaped hfc, hfin.2⟩
  | finalClip _ happ =>
    obtain ⟨hpre, _, _, hsets⟩ := hfin
    have hclamp := happ ▸ clampTri_shaped hfinal hpre
    exact ⟨hfc, hpre, hclamp, Tri.shaped_zipWith _ hclamp hpre, hsets⟩
  | convert =>
    obtain ⟨hpre, happ, hclip, _⟩ := hfin
    refine ⟨hfc, hpre, happ, hclip, ?_, ?_⟩
    · simp [State.convert, State.setFin]
    · simp [State.convert, State.setFin]
  | latch _ b r =>
    rw [State.notify_force]
    exact ⟨hfc, hfin⟩
  | _ => exact ⟨hfc, hfin⟩

theorem arraySizes_iff (s : State) : ArraySizes s ↔
    s.frame.afs.length = s.cfg.plant.nFA ∧ s.frame.expectFa.length = s.cfg.plant.nFA ∧
      s.force.shaped s.cfg.plant := Iff.rfl

theorem ArraySizes.write {s u : State} (hs : ArraySizes s) (hok : cfgOk s.cfg = true) (hw : RegWrite s u) :
    ArraySizes u := by
  obtain ⟨hafs, hexpect, hforce⟩ := (arraySizes_iff s).mp hs
  obtain ⟨_, hafs', hexpect', _⟩ := hw.frame_cases
  rw [arraySizes_iff, hw.cfg, hafs', hexpect']
  exact ⟨hafs, hexpect, hw.force_shaped hok hforce⟩

theorem arraySizes_init {s : State} (hf : s.frame = FrameUnit.init s.cfg)
    (hc : s.force = ForceUnit.init s.cfg) : ArraySizes s := by
  rw [arraySizes_iff, hf, hc]
  exact ⟨List.length_replicate, List.length_replicate, ForceUnit.shaped_init s.cfg⟩

theorem arraySizes_stepKeeps : StepKeeps (fun c => cfgOk c = true) ArraySizes where
  ports _ _ h := h
  write hok h hw := h.write hok hw
  mapBuilt h _ := h
  loaded _ _ := arraySizes_init rfl rfl
  telemetry _ h := h
  reset _ := arraySizes_init rfl rfl

/-! ## SAFETY -/

theorem winPush_length_of {w : List Bool} {n : Nat} (hn : 1 ≤ n) (h : w.length = n) (b : Bool) :
    (winPush w b).length = n := (winPush_length (h ▸ hn) b).trans h

theorem winClear_length_of {w : List Bool} {n : Nat} (h : w.length = n) : (winClear w).length = n :=
  (winClear_length w).trans h

theorem WindowSizes.write {s u : State} (hs : WindowSizes s) (hok : cfgOk s.cfg = true) (hw : RegWrite s u) :
    WindowSizes u := by
  obtain ⟨hilc1, hfe1, hhpf1, hhpa1⟩ := cfgOk_windows hok
  obtain ⟨hilc, hfe, hfeWin, hhpf, hhpa, htrig⟩ := hs
  cases hw with
  | latch _ b r =>
    rw [WindowSizes, State.notify_cfg, notify_safety]
    exact ⟨hilc, hfe, hfeWin, hhpf, hhpa, htrig⟩
  | pushIlc b => exact ⟨winPush_length_of hilc1 hilc b, hfe, hfeWin, hhpf, hhpa, htrig⟩
  | pushFe i b =>
    refine ⟨hilc, (modifyAt_length _ i _).trans hfe, fun w hmem => ?_, hhpf, hhpa, htrig⟩
    rcases mem_modifyAt hmem with hold | ⟨v, hold, rfl⟩
    · exact hfeWin w hold
    · exact winPush_length_of hfe1 (hfeWin v hold) b
  | pushHpf h b =>
    have hset := PerHp.forall_get_set (p := fun w : List Bool => w.length = _) h hhpf
      (winPush_length_of hhpf1 (hhpf h) b)
    exact ⟨hilc, hfe, hfeWin, hset, hhpa, htrig⟩
  | pushHpa h b =>
    have hset := PerHp.forall_get_set (p := fun w : List Bool => w.length = _) h hhpa
      (winPush_length_of hhpa1 (hhpa h) b)
    exact ⟨hilc, hfe, hfeWin, hhpf, hset, htrig⟩
  | clearFaults =>
    refine ⟨winClear_length_of hilc, List.length_map _ |>.trans hfe, fun w hmem => ?_, fun h => ?_,
      fun h => ?_, winClear_length_of htrig⟩
    · obtain ⟨v, hv, rfl⟩ := List.mem_map.mp hmem
      exact winClear_length_of (hfeWin v hv)
    · exact (congrArg List.length (PerHp.get_map winClear _ h)).trans (winClear_length_of (hhpf h))
    · exact (congrArg List.length (PerHp.get_map winClear _ h)).trans (winClear_length_of (hhpa h))
  | _ => exact ⟨hilc, hfe, hfeWin, hhpf, hhpa, htrig⟩

theorem windowSizes_init {s : State} (h : s.safety = SafetyUnit.init s.cfg) : WindowSizes s := by
  rw [WindowSizes, h]
  refine ⟨List.length_replicate, List.length_replicate, fun w hw => ?_, fun k => ?_, fun k => ?_,
    List.length_replicate⟩
  · rw [List.eq_of_mem_replicate hw]
    exact List.length_replicate
  · rw [SafetyUnit.init, PerHp.get_pure]
    exact List.length_replicate
  · rw [SafetyUnit.init, PerHp.get_pure]
    exact List.length_replicate

theorem windowSizes_stepKeeps : StepKeeps (fun c => cfgOk c = true) WindowSizes where
  ports _ _ h := h
  write hok h hw := h.write hok hw
  mapBuilt h _ := h
  loaded _ _ := windowSizes_init rfl
  telemetry _ h := h
  reset _ := windowSizes_init rfl

/-- Settles O11: every write of an array or a window keeps its length, a configuration's limit tables and
periods being in form. -/
theorem sizesKept : Obligations.SizesKept := by
  unfold Obligations.SizesKept
  exact fun s t hcfg hstep => ⟨fun hs => arraySizes_stepKeeps.of_step hcfg.2 hs hstep,
    fun hs => windowSizes_stepKeeps.of_step hcfg.2 hs hstep⟩

end Sys2Proof.Machine

/-! # Support percentage and deadline (spec/10_state.md R57, spec/45_raise_lower.md R353, R356) -/

namespace Sys2Proof.Machine

/-- A value in 0..100 (R57). -/
def pctOk (p : F64) : Prop := f64Le 0 p = true ∧ f64Le p f64Hundred = true

theorem pctOk_zero : pctOk 0 := ⟨by decide, by decide⟩

theorem pctOk_hundred : pctOk f64Hundred := ⟨by decide, by decide⟩

theorem pctOk_finite {p : F64} (h : pctOk p) : f64IsFinite p = true := by
  obtain ⟨hlow, hhigh⟩ := h
  have hmag : b64.mag p.toNat ≤ b64.mag f64Hundred.toNat := Fmt.mag_le_of_le hlow hhigh
  have hfin : b64.mag f64Hundred.toNat < b64.inf := by decide
  exact decide_eq_true (Nat.lt_of_le_of_lt hmag hfin)

theorem cfgOk_raise {c : Cfg} (h : cfgOk c = true) :
    f64Lt 0 c.raise.raiseInc = true ∧ f64Lt 0 c.raise.lowerDec = true := by
  simp only [cfgOk, raiseOk, Bool.and_eq_true] at h
  obtain ⟨_, ⟨⟨⟨⟨hinc, hdec⟩, _⟩, _⟩, _⟩, _⟩ := h
  exact ⟨hinc, hdec⟩

theorem pctOk_up {c : RaiseCfg} {p : F64} (hinc : f64Lt 0 c.raiseInc = true) (hp : pctOk p) :
    pctOk (pctUp c p) := by
  unfold pctUp
  have hsum : f64Le 0 (f64Add p c.raiseInc) = true := f64Add_nonneg hp.1 (f64Le_of_lt hinc)
  rcases f64Min_cases (f64Le_not_nan pctOk_hundred.1).2 (f64Le_not_nan hsum).2 with h | ⟨h, hle⟩
  · rw [h]
    exact pctOk_hundred
  · rw [h]
    exact ⟨hsum, hle⟩

theorem pctOk_down {c : RaiseCfg} {p : F64} (hdec : f64Lt 0 c.lowerDec = true) (hp : pctOk p) :
    pctOk (pctDown c p) := by
  unfold pctDown
  have hdiff : f64Le (f64Sub p c.lowerDec) p = true := f64Sub_le hp.1 (pctOk_finite hp) (f64Le_of_lt hdec)
  rcases f64Max_cases (f64Le_not_nan pctOk_zero.1).2 (f64Le_not_nan hdiff).1 with h | ⟨h, hle⟩
  · rw [h]
    exact pctOk_zero
  · rw [h]
    exact ⟨hle, f64Le_trans hdiff hp.2⟩

theorem PctWrite.pctOk {c : Cfg} {p q : F64} (h : PctWrite c.raise p q) (hok : cfgOk c = true)
    (hp : pctOk p) : pctOk q := by
  obtain ⟨hinc, hdec⟩ := cfgOk_raise hok
  cases h with
  | up => exact pctOk_up hinc hp
  | down => exact pctOk_down hdec hp
  | zero => exact pctOk_zero
  | full => exact pctOk_hundred

/-- A write of RAISE keeps `PCT` or writes it as the support percentage's operations do (R358 to R361). -/
theorem RaiseWrite.pct_cases {c : RaiseCfg} {u w : RaiseUnit} (h : RaiseWrite c u w) :
    w.pct = u.pct ∨ PctWrite c u.pct w.pct := by
  cases h with
  | startRaise => exact .inr .zero
  | progressUp => exact .inr .up
  | progressDown => exact .inr .down
  | pct hp => exact .inr hp
  | raised => exact .inr .full
  | lowered => exact .inr .zero
  | _ => exact .inl rfl

theorem RegWrite.raise_cases {s u : State} (h : RegWrite s u) :
    u.raise = s.raise ∨ RaiseWrite s.cfg.raise s.raise u.raise := by
  cases h with
  | raise hu => exact .inr hu
  | latch _ b r => exact .inl (State.notify_raise s _ b r)
  | _ => exact .inl rfl

theorem PctInv.write {s u : State} (h : PctInv s) (hok : cfgOk s.cfg = true) (hw : RegWrite s u) :
    PctInv u := by
  rcases hw.raise_cases with hr | hr
  · rwa [PctInv, hr]
  · rcases hr.pct_cases with hp | hp
    · rwa [PctInv, hp]
    · exact hp.pctOk hok h

theorem pctInv_stepKeeps : StepKeeps (fun c => cfgOk c = true) PctInv where
  ports _ _ h := h
  write hok h hw := h.write hok hw
  mapBuilt h _ := h
  loaded _ h := h
  telemetry _ h := h
  reset _ := pctOk_zero

/-- `DeadlineInv`, of the registers of RAISE alone. -/
def RaiseUnit.deadlineOk (u : RaiseUnit) : Prop :=
  (u.rstate ≠ .running → f64IsNaN u.deadline = true) ∧
    (u.rstate = .running → u.deadline = f64Add u.segStart u.remain)

theorem f64IsNaN_f64NaN : f64IsNaN f64NaN = true := by decide

/-- A write that leaves `Running` writes the NaN; one that enters it writes the sum (R344, R356, R368). -/
theorem RaiseWrite.deadlineOk {c : RaiseCfg} {u w : RaiseUnit} (h : RaiseWrite c u w)
    (hu : u.deadlineOk) : w.deadlineOk := by
  cases h with
  | startRaise | startLower | resume => exact ⟨fun hne => absurd rfl hne, fun _ => rfl⟩
  | raised | lowered | pause | reset => exact ⟨fun _ => f64IsNaN_f64NaN, nofun⟩
  | _ => exact hu

theorem DeadlineInv.write {s u : State} (h : DeadlineInv s) (hw : RegWrite s u) : DeadlineInv u := by
  rcases hw.raise_cases with hr | hr
  · rwa [DeadlineInv, hr]
  · exact hr.deadlineOk h

theorem deadlineInv_stepKeeps : StepKeeps (fun _ => True) DeadlineInv where
  ports _ _ h := h
  write _ h hw := h.write hw
  mapBuilt h _ := h
  loaded _ h := h
  telemetry _ h := h
  reset _ := ⟨fun _ => f64IsNaN_f64NaN, nofun⟩

/-- Settles O14: the four writes of `PCT` stay in 0..100, and the deadline follows `RSTATE`. -/
theorem percentAndDeadlineKept : Obligations.PercentAndDeadlineKept := by
  unfold Obligations.PercentAndDeadlineKept
  exact fun s t hstep => ⟨fun hcfg hs => pctInv_stepKeeps.of_step hcfg.2 hs hstep,
    fun hs => deadlineInv_stepKeeps.of_step (fun _ => trivial) hs hstep⟩

end Sys2Proof.Machine

/-! # The reset state (spec/10_state.md R70, spec/70_reset_and_hazards.md R420) -/

namespace Sys2Proof.Machine

theorem Tri.all_fill {α : Type} {f : α → Bool} {v : α} (hv : f v = true) (c : PlantCfg) :
    (Tri.fill c v).all f = true := by
  simp [Tri.all, Tri.fill, hv]

theorem Tri.zero_fill (c : PlantCfg) : Tri.zero (Tri.fill c 0) = true := Tri.all_fill (by decide) c

/-- Every component stands at its reset value. -/
theorem reset_comp (k : Comp) : State.reset.force.fc.get k = Component.init cfgAtReset :=
  PerComp.get_pure _ k

theorem reset_tx (n : Subnet) : State.reset.frame.tx.get n = TxBatch.init := PerSubnet.get_pure _ n

theorem reset_rx (n : Subnet) : State.reset.frame.rx.get n = [] := PerSubnet.get_pure _ n

theorem batchInv_reset : BatchInv State.reset := by
  have hclosed (n : Subnet) : (State.reset.frame.tx.get n).opened ≠ true := by
    rw [reset_tx]
    nofun
  refine ⟨fun n => .inl (reset_tx n), fun n => ?_, fun n h => absurd h (hclosed n),
    fun n _ h => absurd h (hclosed n), fun n => ?_⟩
  · rw [reset_tx]
    exact Nat.zero_le _
  · rw [reset_rx]
    exact Nat.zero_le _

theorem quietInv_reset : QuietInv State.reset := by
  refine ⟨fun k hk => ?_, fun k _ => ?_, fun k => ?_, fun b hb => List.eq_of_mem_replicate hb⟩
  · rw [reset_comp] at hk
    cases hk
  · rw [reset_comp]
    exact Tri.zero_fill _
  · rw [reset_comp]
    exact Tri.zero_fill _

theorem finiteInv_reset : FiniteInv State.reset := by
  intro k
  have hfin : (Tri.fill cfgAtReset.plant (0 : F32)).all f32IsFinite = true := Tri.all_fill (by decide) _
  rw [reset_comp]
  exact ⟨hfin, hfin, hfin, hfin⟩

/-- Settles O16: nothing is loaded or mapped, every register is at its reset value. -/
theorem resetMeetsInvariants : Obligations.ResetMeetsInvariants := by
  unfold Obligations.ResetMeetsInvariants
  exact ⟨⟨nofun, nofun⟩, mapInv_of_empty rfl, batchInv_reset, arraySizes_init rfl rfl, windowSizes_init rfl,
    rollUpInv_init rfl rfl, ⟨errorReg_ok_init _, errorReg_ok_init _⟩, pctOk_zero,
    ⟨fun _ => f64IsNaN_f64NaN, nofun⟩, quietInv_reset, finiteInv_reset⟩

/-! ## RESET and PULL_TELEMETRY -/

theorem winSum_replicate_false (n : Nat) : winSum (List.replicate n false) = 0 := by
  simp [winSum, List.countP_replicate]

/-- Every counter of FRAME is zero after reset (R34). -/
theorem reset_expect (t : ActType) (i : Nat) : State.reset.frame.expect t i = 0 := by
  unfold FrameUnit.expect
  cases t with
  | unknown => rfl
  | forceActuator => rfl
  | hardpoint | hardpointMonitor =>
    dsimp only
    split
    · rfl
    · exact PerHp.get_pure _ _

/-- A component at its reset value (R42 to R44). -/
theorem componentInit_values (c : Cfg) :
    (Component.init c).state = .initialising ∧ Tri.zero (Component.init c).current = true ∧
      Tri.zero (Component.init c).target = true ∧ Tri.zero (Component.init c).offset = true ∧
      Tri.zero (Component.init c).preclipped = true ∧ Tri.zero (Component.init c).applied = true ∧
      anyFlag (Component.init c).clipWarn = false ∧ (Component.init c).anyClip = false :=
  ⟨rfl, Tri.zero_fill _, Tri.zero_fill _, Tri.zero_fill _, Tri.zero_fill _, Tri.zero_fill _,
    anyFlag_fill_false _, rfl⟩

/-- The windows of the hardpoints at their reset value (R52). -/
theorem reset_windows (h : Hp) :
    winSum (State.reset.safety.winHpf.get h) = 0 ∧ winSum (State.reset.safety.winHpa.get h) = 0 := by
  have hget (n : Nat) : winSum ((PerHp.pure (List.replicate n false)).get h) = 0 := by
    rw [PerHp.get_pure, winSum_replicate_false]
  exact ⟨hget _, hget _⟩

/-- Settles O50: the state after `RESET` has the registers of `State.reset`, each at its value in the reset
table; an array of it has equal elements, however many. -/
theorem resetAndTelemetry : Obligations.ResetAndTelemetry := by
  unfold Obligations.ResetAndTelemetry
  refine fun s v => ⟨rfl, s.resetAll.respond .ok .none, rfl, rfl, rfl, rfl, rfl, rfl, rfl, rfl,
    fun n a => ?map, fun n => ?tx, fun n => ?rx, fun x hx => ?afs, fun h => ?hps, reset_expect, rfl, rfl,
    fun k => ?comp, Tri.zero_fill _, Tri.zero_fill _, anyFlag_fill_false _, rfl, fun f hf => ?sets, rfl, rfl,
    rfl, rfl, winSum_replicate_false _, fun w hw => ?winFe, reset_windows,
    fun b hb => List.eq_of_mem_replicate hb, rfl, rfl, rfl, rfl, f64IsNaN_f64NaN, rfl, rfl, rfl, rfl, rfl,
    fun h => PerHp.get_pure _ h, rfl, rfl⟩
  case map => exact congrArg (fun m => mapGet m a) (PerSubnet.get_pure [] n)
  case tx =>
    have hb := reset_tx n
    exact ⟨congrArg TxBatch.len hb, congrArg TxBatch.start hb, congrArg TxBatch.opened hb⟩
  case rx => exact ⟨reset_rx n, PerSubnet.get_pure _ n⟩
  case afs => exact List.eq_of_mem_replicate hx
  case hps => exact PerHp.get_pure _ h
  case comp => exact (reset_comp k).symm ▸ componentInit_values cfgAtReset
  case sets => exact (List.mem_append.mp hf).elim List.eq_of_mem_replicate List.eq_of_mem_replicate
  case winFe =>
    rw [List.eq_of_mem_replicate hw]
    exact winSum_replicate_false _

end Sys2Proof.Machine

/-! # Accesses of the codec as accesses of memory (spec/20_memory.md R84, R85, R98; spec/40_codec.md R151) -/

namespace Sys2Proof.Machine

/-! ## Where a read has nothing to answer -/

theorem dataBytes_eq_none {cs : List Cell} {c : Cell} (hc : c ∈ cs) (h : ∀ b, c ≠ .data b) :
    dataBytes cs = none := by
  cases hd : dataBytes cs with
  | none => rfl
  | some bs =>
    rw [dataBytes_eq_some hd] at hc
    obtain ⟨b, _, rfl⟩ := List.mem_map.mp hc
    exact absurd rfl (h b)

theorem memRead_past_end {buf : List Cell} {pos n : Nat} (h : buf.length < pos + n) :
    memRead buf pos n = none := if_pos h

/-- A cell that is no data cell, anywhere in the bytes asked for, leaves no answer (R84). -/
theorem memRead_of_control {buf : List Cell} {pos n k : Nat} {c : Cell} (hk : pos ≤ k) (hkn : k < pos + n)
    (hget : buf[k]? = some c) (hc : ∀ b, c ≠ .data b) : memRead buf pos n = none := by
  unfold memRead
  split
  · rfl
  · refine dataBytes_eq_none (List.mem_of_getElem? (i := k - pos) ?_) hc
    rw [List.getElem?_take_of_lt (by omega), List.getElem?_drop, Nat.add_sub_cancel' hk, hget]

/-! ## The answers of a codec access -/

theorem floatBytes_length (o : FloatOrder) (bs : List Byte) : (floatBytes o bs).length = bs.length := by
  cases o with
  | big => rfl
  | little => exact List.length_reverse

section
variable {s : State} {buf : List Cell} {cur n : Nat}

theorem codecGet_of_none {mk : List Byte → CodecValue} (hs : s.ready = true)
    (h : memRead buf cur n = none) :
    codecGet buf cur n mk s =
      .next (s.respond .decodeError (.codecError (some (cur, n)) buf cur)) := by
  rw [codecGet, whenReady_ready hs, h]

theorem codecGet_of_some {mk : List Byte → CodecValue} {bs : List Byte} (hs : s.ready = true)
    (h : memRead buf cur n = some bs) :
    codecGet buf cur n mk s = .next (s.respond .ok (.read (mk bs) (cur + n))) := by
  rw [codecGet, whenReady_ready hs, h]
  rfl

theorem codecSet_past_end {bs : List Byte} (hs : s.ready = true) (hlen : bs.length = n)
    (h : buf.length < cur + n) :
    codecSet buf cur bs s =
      .next (s.respond .encodeError (.codecError (some (cur, n)) buf cur)) := by
  subst hlen
  rw [codecSet, whenReady_ready hs, (memWrite_eq_none_iff buf cur bs).mpr h]

theorem codecSet_beBytes_past_end {v : Nat} (hs : s.ready = true) (h : buf.length < cur + n) :
    codecSet buf cur (beBytes n v) s =
      .next (s.respond .encodeError (.codecError (some (cur, n)) buf cur)) :=
  codecSet_past_end hs (beBytes_length n v) h

theorem codecSet_floatBytes_past_end {o : FloatOrder} {v : Nat} (hs : s.ready = true)
    (h : buf.length < cur + n) :
    codecSet buf cur (floatBytes o (beBytes n v)) s =
      .next (s.respond .encodeError (.codecError (some (cur, n)) buf cur)) :=
  codecSet_past_end hs ((floatBytes_length o _).trans (beBytes_length n v)) h

/-- A write that answers a buffer has stored its bytes in it. -/
theorem codecSet_written {buf' : List Cell} {q : Nat} {bs : List Byte} (hs : s.ready = true)
    (h : codecSet buf cur bs s = .next (s.respond .ok (.written buf' q))) :
    memWrite buf cur bs = some buf' := by
  rw [codecSet, whenReady_ready hs] at h
  cases hw : memWrite buf cur bs with
  | none => simp [hw, State.respond] at h
  | some b =>
    simp only [hw, State.done, State.respond] at h
    simp_all

end

/-- Every read of fixed width is `codecGet` with that width (R152 to R161). -/
theorem exec_fixedRead {r : (List Cell → Nat → Instr) × Nat} (hr : r ∈ fixedReads) (buf : List Cell)
    (cur : Nat) (s : State) : ∃ mk, exec (r.1 buf cur) s = codecGet buf cur r.2 mk s := by
  simp only [fixedReads, List.mem_cons, List.not_mem_nil, or_false] at hr
  rcases hr with rfl | rfl | rfl | rfl | rfl | rfl | rfl | rfl | rfl | rfl <;> exact ⟨_, rfl⟩

/-- Settles O20: a read that `memRead` has no answer to, and a write that `memWrite` has no room for, end in
the refusal of `codecGet` and of `codecSet`. -/
theorem codecBounds : Obligations.CodecBounds := by
  unfold Obligations.CodecBounds
  intro s buf cur hs
  refine ⟨fun r hr hbad => ?_,
    fun h v k => ⟨codecSet_beBytes_past_end hs h, codecSet_beBytes_past_end hs h⟩,
    fun h v k => ⟨codecSet_beBytes_past_end hs h, codecSet_beBytes_past_end hs h⟩,
    fun h v k => ⟨codecSet_beBytes_past_end hs h, codecSet_beBytes_past_end hs h,
      codecSet_floatBytes_past_end hs h⟩,
    fun h v k => ⟨codecSet_beBytes_past_end hs h, codecSet_beBytes_past_end hs h,
      codecSet_floatBytes_past_end hs h⟩⟩
  obtain ⟨mk, hexec⟩ := exec_fixedRead hr buf cur s
  rw [hexec]
  refine codecGet_of_none hs ?_
  rcases hbad with hpast | ⟨k, c, hk, hkn, hget, hc⟩
  · exact memRead_past_end hpast
  · exact memRead_of_control hk hkn hget hc

/-! ## Reading a part of what was written -/

/-- A read inside the bytes of a write gives that part of them (R84, R85). -/
theorem memRead_part {buf buf' : List Cell} {pos k n : Nat} {pre bs post : List Byte}
    (h : memWrite buf pos (pre ++ bs ++ post) = some buf') (hk : pre.length = k) (hn : bs.length = n) :
    memRead buf' (pos + k) n = some bs := by
  subst hk hn
  obtain ⟨hlen, rfl⟩ := memWrite_eq_some h
  have hpos : (buf.take pos ++ pre.map Cell.data).length = pos + pre.length := by
    simp only [List.length_append, List.length_take, List.length_map] at hlen ⊢
    omega
  have hread := memRead_of_append (buf.take pos ++ pre.map Cell.data) bs
    (post.map Cell.data ++ buf.drop (pos + (pre ++ bs ++ post).length))
  rw [hpos] at hread
  simpa only [List.map_append, List.append_assoc] using hread

/-- The high bytes of a number, then its low ones (R83). -/
theorem beBytes_add (m n v : Nat) : beBytes (m + n) v = beBytes m (v / 256 ^ n) ++ beBytes n v := by
  induction m with
  | zero => rw [Nat.zero_add]; rfl
  | succ m ih =>
    rw [Nat.succ_add, beBytes, ih, beBytes, Nat.div_div_eq_div_mul, ← Nat.pow_add, Nat.add_comm n m]
    rfl

/-- The bytes of a word, least significant first, are its bits from 0 up. -/
theorem reverse_beBytes_word (v : BitVec 32) :
    (beBytes 4 v.toNat).reverse =
      [v.extractLsb' 0 8, v.extractLsb' 8 8, v.extractLsb' 16 8, v.extractLsb' 24 8] := by
  simp [beBytes, BitVec.extractLsb', Nat.shiftRight_eq_div_pow]

theorem toNat_append_byte {n : Nat} (v : BitVec n) (b : Byte) :
    (v ++ b).toNat = v.toNat * 256 + b.toNat := by
  rw [BitVec.toNat_append, ← Nat.shiftLeft_add_eq_or_of_lt b.isLt, Nat.shiftLeft_eq]

/-- Four bytes read as a number are the word they make, the first one most significant. -/
theorem beNat_word (a b c d : Byte) : beNat [a, b, c, d] = (a ++ b ++ c ++ d).toNat := by
  rw [toNat_append_byte, toNat_append_byte, toNat_append_byte]
  simp [beNat]

/-- A `u32` written leaves its upper half at its position and its lowest byte three bytes on (R98). -/
theorem parts_after_setU32 {s : State} {buf buf' : List Cell} {p q : Nat} {v : BitVec 32}
    (hs : s.ready = true)
    (h : exec (.setU32 buf p v) s = .next (s.respond .ok (.written buf' q))) :
    exec (.getU16 buf' p) s =
        .next (s.respond .ok (.read (.unsigned (v.extractLsb' 16 16).toNat) (p + 2))) ∧
      exec (.getU8 buf' (p + 3)) s =
        .next (s.respond .ok (.read (.unsigned (v.extractLsb' 0 8).toNat) (p + 4))) := by
  have hw : memWrite buf p (beBytes 4 v.toNat) = some buf' := codecSet_written hs h
  have hhigh : memRead buf' p 2 = some (beBytes 2 (v.toNat / 256 ^ 2)) :=
    memRead_part (pre := []) (beBytes_add 2 2 v.toNat ▸ hw) rfl (beBytes_length ..)
  have hlow : memRead buf' (p + 3) 1 = some (beBytes 1 v.toNat) :=
    memRead_part (post := []) (by rwa [List.append_nil, ← beBytes_add]) (beBytes_length ..)
      (beBytes_length ..)
  constructor
  · have hval : beNat (beBytes 2 (v.toNat / 256 ^ 2)) = (v.extractLsb' 16 16).toNat := by
      rw [beNat_beBytes, BitVec.extractLsb'_toNat, Nat.shiftRight_eq_div_pow]
      rfl
    exact (codecGet_of_some hs hhigh).trans (by rw [getUnsigned, hval])
  · have hval : beNat (beBytes 1 v.toNat) = (v.extractLsb' 0 8).toNat := by
      rw [beNat_beBytes, BitVec.extractLsb'_toNat]
      rfl
    exact (codecGet_of_some hs hlow).trans (by rw [getUnsigned, hval])

/-- Settles O23: a read that starts or ends where the write did gives the first or the last of its bytes;
a float's four bytes are read back in the order `cfg.floatOrder` put them. -/
theorem mixedWidthAccess : Obligations.MixedWidthAccess := by
  unfold Obligations.MixedWidthAccess
  refine fun s buf buf' p q v hs => ⟨parts_after_setU32 hs, fun h => ?_⟩
  have hread := memRead_after_memWrite (codecSet_written hs h)
  rw [floatBytes_length, beBytes_length] at hread
  refine (codecGet_of_some hs hread).trans ?_
  cases s.cfg.frame.floatOrder with
  | big =>
    have hval : beNat (beBytes 4 v.toNat) = v.toNat := (beNat_beBytes 4 _).trans (Nat.mod_eq_of_lt v.isLt)
    rw [getUnsigned, floatBytes, hval]
  | little => rw [getUnsigned, floatBytes, reverse_beBytes_word, beNat_word]

end Sys2Proof.Machine

/-! # Parses of different subnets (spec/20_memory.md R93, spec/42_frame_parse.md R212 to R217, R240)

A parse is a list of writes to `RXTS`, `AFS`, `HPS` and the counters, and warnings and events between them.
Which writes it makes depends on the batch, the map and the configuration alone (`Parses`); two writes to
different elements commute, so two such lists do whose subnets own different elements. -/

namespace Sys2Proof

theorem PerSubnet.set_comm {α : Type} (p : PerSubnet α) {n m : Subnet} (h : n ≠ m) (v w : α) :
    (p.set n v).set m w = (p.set m w).set n v := by
  refine PerSubnet.ext_get fun k => ?_
  simp only [PerSubnet.get_set]
  split <;> split <;> simp_all

theorem PerHp.ext_get {α : Type} {p q : PerHp α} (h : ∀ k, p.get k = q.get k) : p = q := by
  obtain ⟨a0, a1, a2, a3, a4, a5⟩ := p
  obtain ⟨b0, b1, b2, b3, b4, b5⟩ := q
  exact (PerHp.mk.injEq ..).mpr ⟨h .h0, h .h1, h .h2, h .h3, h .h4, h .h5⟩

theorem PerHp.set_comm {α : Type} (p : PerHp α) {h k : Hp} (hne : h ≠ k) (v w : α) :
    (p.set h v).set k w = (p.set k w).set h v := by
  refine PerHp.ext_get fun g => ?_
  simp only [PerHp.get_set]
  split <;> split <;> simp_all

/-- Two elements of a bank changed, each by a function of its own value. -/
theorem PerHp.update_comm {α : Type} (p : PerHp α) {h k : Hp} (hne : h ≠ k) (f g : α → α) :
    (p.set h (f (p.get h))).set k (g ((p.set h (f (p.get h))).get k)) =
      (p.set k (g (p.get k))).set h (f ((p.set k (g (p.get k))).get h)) := by
  rw [PerHp.get_set_ne p hne, PerHp.get_set_ne p hne.symm, PerHp.set_comm p hne]

theorem modifyAt_comm {α : Type} (l : List α) {i j : Nat} (h : i ≠ j) (f g : α → α) :
    modifyAt (modifyAt l i f) j g = modifyAt (modifyAt l j g) i f := by
  induction l generalizing i j with
  | nil => rfl
  | cons a r ih =>
    cases i with
    | zero =>
      cases j with
      | zero => exact absurd rfl h
      | succ j => rfl
    | succ i =>
      cases j with
      | zero => rfl
      | succ j => exact congrArg (a :: ·) (ih fun hij => h (congrArg Nat.succ hij))

theorem Hp.number_of_ofIndex {i : Nat} {h : Hp} (hi : Hp.ofIndex i = some h) : h.number = i := by
  unfold Hp.ofIndex at hi
  split at hi <;> cases hi <;> rfl

theorem indexOf_injective {v w : I32} {i : Nat} (hv : indexOf v = some i) (hw : indexOf w = some i) :
    v = w :=
  BitVec.eq_of_toNat_eq ((Machine.indexOf_eq_some hv).symm.trans (Machine.indexOf_eq_some hw))

end Sys2Proof

namespace Sys2Proof.Machine

/-! ## The writes of a parse -/

/-- One element written by a parse: `RXTS`, `AFS`, `HPS` or a counter (R93). -/
inductive ParseWrite where
  | rxts (n : Subnet) (ts : U64)
  | afs (i : Nat) (f : ActuatorForce → ActuatorForce)
  | hps (h : Hp) (v : F32)
  | expectFa (i : Nat) (f : I32 → I32)
  | expectHp (h : Hp) (f : I32 → I32)
  | expectHm (h : Hp) (f : I32 → I32)

/-- The write on the state of FRAME. -/
def ParseWrite.runFrame (u : FrameUnit) : ParseWrite → FrameUnit
  | rxts n ts => { u with rxts := u.rxts.set n ts }
  | afs i f => { u with afs := modifyAt u.afs i f }
  | hps h v => { u with hps := u.hps.set h v }
  | expectFa i f => { u with expectFa := modifyAt u.expectFa i f }
  | expectHp h f => { u with expectHp := u.expectHp.set h (f (u.expectHp.get h)) }
  | expectHm h f => { u with expectHm := u.expectHm.set h (f (u.expectHm.get h)) }

def State.runWrite (s : State) (w : ParseWrite) : State := { s with frame := w.runFrame s.frame }

/-- Some writes in order. -/
def State.runWrites (s : State) (l : List ParseWrite) : State := l.foldl State.runWrite s

theorem State.runWrites_append (s : State) (l r : List ParseWrite) :
    s.runWrites (l ++ r) = (s.runWrites l).runWrites r := List.foldl_append

/-- Element `i` of the files of type `t` belongs to an actuator of subnet `n` (R28). -/
def OwnsIndex (m : PerSubnet (List MapCell)) (n : Subnet) (t : ActType) (i : Nat) : Prop :=
  ∃ c, c ∈ m.get n ∧ c.entry.type = t ∧ indexOf c.entry.dataIndex = some i

/-- The element written belongs to subnet `n`. -/
def ParseWrite.OwnedBy (m : PerSubnet (List MapCell)) (n : Subnet) : ParseWrite → Prop
  | rxts k _ => k = n
  | afs i _ => OwnsIndex m n .forceActuator i
  | hps h _ => OwnsIndex m n .hardpoint h.number
  | expectFa i _ => OwnsIndex m n .forceActuator i
  | expectHp h _ => OwnsIndex m n .hardpoint h.number
  | expectHm h _ => OwnsIndex m n .hardpointMonitor h.number

/-- No actuator of `n` shares its type and data index with one of `k`: the premise of O31. -/
def IndicesDisjoint (m : PerSubnet (List MapCell)) (n k : Subnet) : Prop :=
  ∀ c d, c ∈ m.get n → d ∈ m.get k → c.entry.type ≠ d.entry.type ∨ c.entry.dataIndex ≠ d.entry.dataIndex

section
variable {m : PerSubnet (List MapCell)} {n k : Subnet} (hne : n ≠ k) (hd : IndicesDisjoint m n k)
include hd

theorem IndicesDisjoint.index_ne {t : ActType} {i j : Nat} (hi : OwnsIndex m n t i)
    (hj : OwnsIndex m k t j) : i ≠ j := by
  rintro rfl
  obtain ⟨c, hc, hct, hci⟩ := hi
  obtain ⟨d, hdm, hdt, hdi⟩ := hj
  rcases hd c d hc hdm with htype | hindex
  · exact htype (hct.trans hdt.symm)
  · exact hindex (indexOf_injective hci hdi)

theorem IndicesDisjoint.hp_ne {t : ActType} {h g : Hp} (hh : OwnsIndex m n t h.number)
    (hg : OwnsIndex m k t g.number) : h ≠ g :=
  fun heq => hd.index_ne hh hg (congrArg Hp.number heq)

include hne

/-- Writes to elements of different subnets commute. -/
theorem ParseWrite.runWrite_comm {a b : ParseWrite} (ha : a.OwnedBy m n) (hb : b.OwnedBy m k) (s : State) :
    (s.runWrite a).runWrite b = (s.runWrite b).runWrite a := by
  refine congrArg (fun u : FrameUnit => { s with frame := u }) ?_
  cases a with
  | rxts _ ts =>
    cases b with
    | rxts _ ts' =>
      have hkeys := PerSubnet.set_comm s.frame.rxts (ha.trans_ne hne |>.trans_eq hb.symm) ts ts'
      exact congrArg (fun v => { s.frame with rxts := v }) hkeys
    | _ => rfl
  | afs i f =>
    cases b with
    | afs j g =>
      exact congrArg (fun v => { s.frame with afs := v }) (modifyAt_comm _ (hd.index_ne ha hb) f g)
    | _ => rfl
  | hps h v =>
    cases b with
    | hps g w => exact congrArg (fun v => { s.frame with hps := v }) (PerHp.set_comm _ (hd.hp_ne ha hb) v w)
    | _ => rfl
  | expectFa i f =>
    cases b with
    | expectFa j g =>
      exact congrArg (fun v => { s.frame with expectFa := v }) (modifyAt_comm _ (hd.index_ne ha hb) f g)
    | _ => rfl
  | expectHp h f =>
    cases b with
    | expectHp g f' =>
      exact congrArg (fun v => { s.frame with expectHp := v }) (PerHp.update_comm _ (hd.hp_ne ha hb) f f')
    | _ => rfl
  | expectHm h f =>
    cases b with
    | expectHm g f' =>
      exact congrArg (fun v => { s.frame with expectHm := v }) (PerHp.update_comm _ (hd.hp_ne ha hb) f f')
    | _ => rfl

theorem State.runWrite_comm_runWrites {a : ParseWrite} (ha : a.OwnedBy m n) {l : List ParseWrite}
    (hl : ∀ b, b ∈ l → b.OwnedBy m k) (s : State) :
    (s.runWrite a).runWrites l = (s.runWrites l).runWrite a := by
  induction l generalizing s with
  | nil => rfl
  | cons b l ih =>
    have hhead : (s.runWrite a).runWrite b = (s.runWrite b).runWrite a :=
      ParseWrite.runWrite_comm hne hd ha (hl b List.mem_cons_self) s
    exact (congrArg (State.runWrites · l) hhead).trans
      (ih (fun c hc => hl c (List.mem_cons_of_mem _ hc)) (s.runWrite b))

/-- Two lists of writes, each to elements of one subnet, commute. -/
theorem State.runWrites_comm {l r : List ParseWrite} (hl : ∀ a, a ∈ l → a.OwnedBy m n)
    (hr : ∀ b, b ∈ r → b.OwnedBy m k) (s : State) :
    (s.runWrites l).runWrites r = (s.runWrites r).runWrites l := by
  induction l generalizing s with
  | nil => rfl
  | cons a l ih =>
    have htail := ih (fun b hb => hl b (List.mem_cons_of_mem _ hb)) (s.runWrite a)
    exact htail.trans
      (congrArg (State.runWrites · l) (State.runWrite_comm_runWrites hne hd (hl a List.mem_cons_self) hr s))

end

/-! ## What a parse depends on -/

/-- The registers a parse depends on and does not write. -/
def State.parseInputs (s : State) :
    (Cfg × Bool × Bool) × PerSubnet (List MapCell) × PerSubnet (List Word16) :=
  (s.config, s.frame.ilcMap, s.frame.rx)

/-- A state without its warning, its log and its response. -/
def State.quiet (s : State) : State :=
  { s with frame := { s.frame with ilcWarn := IlcWarn.init }, log := [], rsp := none }

theorem State.runWrites_parseInputs (s : State) (l : List ParseWrite) :
    (s.runWrites l).parseInputs = s.parseInputs := by
  induction l generalizing s with
  | nil => rfl
  | cons w l ih =>
    have hhead : (s.runWrite w).parseInputs = s.parseInputs := by cases w <;> rfl
    exact (ih (s.runWrite w)).trans hhead

section
variable {s u : State} (h : u.parseInputs = s.parseInputs)
include h

theorem State.config_of_parseInputs : u.config = s.config := congrArg (fun x => x.1) h

theorem State.cfg_of_parseInputs : u.cfg = s.cfg := congrArg (fun x => x.1.1) h

theorem State.map_of_parseInputs : u.frame.ilcMap = s.frame.ilcMap := congrArg (fun x => x.2.1) h

theorem State.rx_of_parseInputs : u.frame.rx = s.frame.rx := congrArg (fun x => x.2.2) h

theorem State.ready_of_parseInputs : u.ready = s.ready :=
  congrArg (fun c : Cfg × Bool × Bool => c.2.1 && c.2.2) (State.config_of_parseInputs h)

theorem State.lookup_of_parseInputs (sub a : Byte) : u.lookup sub a = s.lookup sub a := by
  rw [State.lookup, State.lookup, State.map_of_parseInputs h]

end

/-- An entry that a lookup on subnet `n` finds belongs to `n`. -/
theorem ownsIndex_of_lookup {s : State} {n : Subnet} {a : Byte} {e : IlcEntry}
    (h : s.lookup n.number a = .found e) {i : Nat} (hi : indexOf e.dataIndex = some i) :
    OwnsIndex s.frame.ilcMap n e.type i := by
  rcases lookup_cases s n.number a with ⟨_, hl⟩ | ⟨k, hk, ⟨_, hl⟩ | ⟨htype, hl⟩⟩
  · rw [hl] at h; cases h
  · rw [hl] at h; cases h
  · rw [hl] at h
    cases h
    rw [Subnet.ofByte_number] at hk
    cases hk
    exact ⟨_, mapGet_mem htype, rfl, hi⟩

theorem type_of_writesForce {t : ActType} {ws : List SlotWrite} (h : writesForce t ws = true) :
    t = .forceActuator := by
  rw [writesForce, Bool.and_eq_true, beq_iff_eq] at h
  obtain ⟨htype, _⟩ := h
  exact htype

/-- `f` is a list of writes to the elements of subnet `n`, but for warnings, events and the response, and makes
the same writes from every state with the parse inputs of `s`. -/
def Parses (s : State) (n : Subnet) (f : State → State) : Prop :=
  ∃ l : List ParseWrite, (∀ w, w ∈ l → w.OwnedBy s.frame.ilcMap n) ∧
    ∀ u : State, u.parseInputs = s.parseInputs → (f u).quiet = u.quiet.runWrites l

/-- The state that `PARSE` of subnet `n` ends in (R16, R212). -/
def State.parsed (s : State) (n : Subnet) : State :=
  if s.ready then (s.parseBatch n.number n).1.respond .ok (.frames (s.parseBatch n.number n).2)
  else s.respond .notConfigured .none

theorem exec_parse (s : State) (n : Subnet) : exec (.parse n.number none) s = .next (s.parsed n) := by
  have hexec : exec (.parse n.number none) s = execParse n.number none s := rfl
  rw [hexec, execParse, Option.getD_none, Subnet.ofByte_number, whenReady, State.parsed]
  split <;> rfl

/-- The number of frames decoded so far does not bear on the state. -/
theorem parseLoop_state_of_frames (sub : Byte) (w : List Word16) (ts : U64) (fuel p : Nat) (s : State)
    (a b : Nat) : (parseLoop sub w ts fuel p s a).1 = (parseLoop sub w ts fuel p s b).1 := by
  induction fuel generalizing p s a b with
  | zero => rfl
  | succ fuel ih =>
    rw [parseLoop, parseLoop]
    split
    · rfl
    · dsimp only
      split
      · rfl
      · exact ih ..
      · exact ih ..
      · exact ih ..

namespace Parses

variable {s : State} {n : Subnet} {f g : State → State}

/-- An update that writes nothing but the warning, the log and the response. -/
theorem of_quiet (h : ∀ u, (f u).quiet = u.quiet) : Parses s n f :=
  ⟨[], by simp, fun u _ => h u⟩

theorem of_runWrite {w : ParseWrite} (hw : w.OwnedBy s.frame.ilcMap n) : Parses s n (fun u => u.runWrite w) :=
  ⟨[w], fun _ hv => List.mem_singleton.mp hv ▸ hw, fun _ _ => by cases w <;> rfl⟩

theorem congr (hg : Parses s n g) (h : ∀ u, u.parseInputs = s.parseInputs → f u = g u) : Parses s n f := by
  obtain ⟨l, hl, hrun⟩ := hg
  exact ⟨l, hl, fun u hu => (congrArg State.quiet (h u hu)).trans (hrun u hu)⟩

theorem parseInputs_eq (hf : Parses s n f) {u : State} (hu : u.parseInputs = s.parseInputs) :
    (f u).parseInputs = s.parseInputs := by
  obtain ⟨l, _, hrun⟩ := hf
  calc (f u).parseInputs
    _ = (f u).quiet.parseInputs := rfl
    _ = (u.quiet.runWrites l).parseInputs := by rw [hrun u hu]
    _ = u.quiet.parseInputs := State.runWrites_parseInputs _ l
    _ = s.parseInputs := hu

theorem comp (hf : Parses s n f) (hg : Parses s n g) : Parses s n (fun u => g (f u)) := by
  have hinputs := fun u => hf.parseInputs_eq (u := u)
  obtain ⟨l, hl, hrun⟩ := hf
  obtain ⟨r, hr, hrun'⟩ := hg
  refine ⟨l ++ r, fun w hw => (List.mem_append.mp hw).elim (hl w) (hr w), fun u hu => ?_⟩
  rw [hrun' _ (hinputs u hu), hrun u hu, State.runWrites_append]

/-- Updates of two subnets with no shared index commute, but for the warning, the log and the response. -/
theorem quiet_comm {k : Subnet} (hne : n ≠ k) (hd : IndicesDisjoint s.frame.ilcMap n k)
    (hf : Parses s n f) (hg : Parses s k g) : (g (f s)).quiet = (f (g s)).quiet := by
  have hfs := hf.parseInputs_eq rfl
  have hgs := hg.parseInputs_eq rfl
  obtain ⟨l, hl, hrun⟩ := hf
  obtain ⟨r, hr, hrun'⟩ := hg
  rw [hrun' _ hfs, hrun s rfl, hrun _ hgs, hrun' s rfl]
  exact State.runWrites_comm hne hd hl hr s.quiet

theorem emit (c : Cause) (id : I32) (ts : State → U64) : Parses s n (fun u => u.emit c id (ts u)) :=
  of_quiet fun _ => rfl

/-! ### The writes of one update -/

/-- A write to the file of the hardpoints or of their monitors at an index: none where the index names no
hardpoint. -/
theorem of_hpIndex {t : ActType} {i : Nat} (h : OwnsIndex s.frame.ilcMap n t i) {w : Hp → ParseWrite}
    (hw : ∀ k, OwnsIndex s.frame.ilcMap n t k.number → (w k).OwnedBy s.frame.ilcMap n)
    (hf : ∀ u, f u = (Hp.ofIndex i).elim u (fun k => u.runWrite (w k))) : Parses s n f := by
  cases hi : Hp.ofIndex i with
  | none => exact of_quiet fun u => by rw [hf, hi]; rfl
  | some k =>
    rw [← Hp.number_of_ofIndex hi] at h
    exact (of_runWrite (hw k h)).congr fun u _ => by rw [hf, hi]; rfl

theorem updateExpect {t : ActType} {i : Nat} (h : OwnsIndex s.frame.ilcMap n t i) (d : I32 → I32) :
    Parses s n (fun u => { u with frame := u.frame.updateExpect t i d }) := by
  cases t with
  | unknown => exact of_quiet fun _ => rfl
  | forceActuator => exact of_runWrite (w := .expectFa i d) h
  | hardpoint =>
    refine of_hpIndex h (w := (.expectHp · d)) (fun _ hk => hk) fun u => ?_
    cases hi : Hp.ofIndex i <;> simp only [FrameUnit.updateExpect, hi] <;> rfl
  | hardpointMonitor =>
    refine of_hpIndex h (w := (.expectHm · d)) (fun _ hk => hk) fun u => ?_
    cases hi : Hp.ofIndex i <;> simp only [FrameUnit.updateExpect, hi] <;> rfl

theorem writeSlot {t : ActType} {i : Nat} (h : OwnsIndex s.frame.ilcMap n t i) (w : SlotWrite) :
    Parses s n (fun u => { u with frame := u.frame.writeSlot t i w }) := by
  cases t with
  | unknown | hardpointMonitor => exact of_quiet fun _ => rfl
  | forceActuator =>
    cases w with
    | primary v => exact of_runWrite (w := .afs i (fun a => { a with primary := v })) h
    | secondary v => exact of_runWrite (w := .afs i (fun a => { a with secondary := v })) h
    | hpForce _ | other _ _ => exact of_quiet fun _ => rfl
  | hardpoint =>
    cases w with
    | hpForce v =>
      refine of_hpIndex h (w := (.hps · v)) (fun _ hk => hk) fun u => ?_
      cases hi : Hp.ofIndex i <;> simp only [FrameUnit.writeSlot, hi] <;> rfl
    | primary _ | secondary _ | other _ _ => exact of_quiet fun _ => rfl

theorem writeSlots {t : ActType} {i : Nat} (h : OwnsIndex s.frame.ilcMap n t i) (ws : List SlotWrite) :
    Parses s n (fun u => { u with frame := ws.foldl (fun v w => v.writeSlot t i w) u.frame }) := by
  induction ws with
  | nil => exact of_quiet fun _ => rfl
  | cons w ws ih => exact (writeSlot h w).comp ih

/-- The derived forces depend on the configuration and on the actuator's own forces (R217). -/
theorem derive {i : Nat} (h : OwnsIndex s.frame.ilcMap n .forceActuator i) :
    Parses s n (fun u => { u with frame := u.frame.modifyAfs i (derived u.cfg i) }) :=
  (of_runWrite (w := .afs i (derived s.cfg i)) h).congr fun u hu =>
    congrArg (fun c => { u with frame := u.frame.modifyAfs i (derived c i) }) (State.cfg_of_parseInputs hu)

section
variable {e : IlcEntry} (he : ∀ i, indexOf e.dataIndex = some i → OwnsIndex s.frame.ilcMap n e.type i)
include he

theorem bumpExpect (d : I32) : Parses s n (fun u => u.bumpExpect e d) := by
  cases hi : indexOf e.dataIndex with
  | none => exact of_quiet fun u => by simp only [State.bumpExpect, FrameUnit.modifyExpect, hi]
  | some i =>
    refine (updateExpect (he i hi) (fun v => v + d)).congr fun u _ => ?_
    simp only [State.bumpExpect, FrameUnit.modifyExpect, hi]

theorem writeUpdate (ws : List SlotWrite) :
    Parses s n (fun u => { u with frame := u.frame.writeUpdate u.cfg e ws }) := by
  cases hi : indexOf e.dataIndex with
  | none => exact of_quiet fun u => by simp only [FrameUnit.writeUpdate, hi]
  | some i =>
    have hslots := writeSlots (he i hi) ws
    cases hf : writesForce e.type ws with
    | false =>
      refine hslots.congr fun u _ => ?_
      simp only [FrameUnit.writeUpdate, hi, hf, Bool.false_eq_true, if_false]
    | true =>
      have htype := type_of_writesForce hf
      refine (hslots.comp (derive (htype ▸ he i hi))).congr fun u _ => ?_
      simp only [FrameUnit.writeUpdate, hi, hf, if_true]

/-! ### One frame -/

theorem commit (sub a g : Byte) (ws : List SlotWrite) (ts : U64) :
    Parses s n (fun u => u.commit sub a g e ws ts) :=
  ((writeUpdate he ws).comp (bumpExpect he (-1))).comp (of_quiet fun _ => rfl)

theorem exceptionFrame (p : List Byte) (ts : U64) : Parses s n (fun u => u.exceptionFrame e p ts) := by
  have hwarn (c : Cause) : Parses s n (fun u => u.emit c e.actuatorId ts) := emit c _ fun _ => ts
  match p with
  | [] | _ :: _ :: _ => exact hwarn .invalidLength
  | [x] =>
    cases hx : s.cfg.frame.excDecrements with
    | false =>
      refine (hwarn (exceptionCause x)).congr fun u hu => ?_
      simp [State.exceptionFrame, State.cfg_of_parseInputs hu, hx]
    | true =>
      refine ((hwarn (exceptionCause x)).comp (bumpExpect he (-1))).congr fun u hu => ?_
      simp [State.exceptionFrame, State.cfg_of_parseInputs hu, hx]

theorem functionFrame (sub a g : Byte) (p : List Byte) (ts : U64) :
    Parses s n (fun u => (u.functionFrame sub a g e p ts).1) := by
  cases hcode : recognised s.cfg e.type g with
  | none =>
    refine (emit .unknownFunction e.actuatorId fun _ => ts).congr fun u hu => ?_
    rw [State.functionFrame, State.cfg_of_parseInputs hu, hcode]
  | some code =>
    cases hws : decodePayload s.cfg.tables e.type code (axisOf a) p with
    | none =>
      refine (emit .invalidLength e.actuatorId fun _ => ts).congr fun u hu => ?_
      simp only [State.functionFrame, State.cfg_of_parseInputs hu, hcode, hws]
    | some ws =>
      refine (commit he sub a g ws ts).congr fun u hu => ?_
      simp only [State.functionFrame, State.cfg_of_parseInputs hu, hcode, hws]

end

theorem frameBody (a g : Byte) (p : List Byte) (ts : U64) :
    Parses s n (fun u => (u.frameBody n.number a g p ts).1) := by
  cases hl : s.lookup n.number a with
  | unknownSubnet =>
    refine (emit .unknownSubnet (-1) fun _ => ts).congr fun u hu => ?_
    rw [State.frameBody, State.lookup_of_parseInputs hu, hl]
  | unknownAddress =>
    refine (emit .unknownAddress (-1) fun _ => ts).congr fun u hu => ?_
    rw [State.frameBody, State.lookup_of_parseInputs hu, hl]
  | found e =>
    have he (i : Nat) (hi : indexOf e.dataIndex = some i) := ownsIndex_of_lookup hl hi
    by_cases hg : 128 ≤ g.toNat
    · refine (exceptionFrame he p ts).congr fun u hu => ?_
      simp only [State.frameBody, State.lookup_of_parseInputs hu, hl, hg, if_true]
    · refine (functionFrame he n.number a g p ts).congr fun u hu => ?_
      simp only [State.frameBody, State.lookup_of_parseInputs hu, hl, hg, if_false]

theorem goodFrame (body : List Byte) (ts : U64) :
    Parses s n (fun u => (u.goodFrame n.number body ts).1) := by
  match body with
  | a :: g :: p => exact frameBody a g p ts
  | [] | [_] => exact emit _ _ fun _ => ts

/-! ### A batch -/

theorem loop (w : List Word16) (ts : U64) (fuel p frames : Nat) :
    Parses s n (fun u => (parseLoop n.number w ts fuel p u frames).1) := by
  induction fuel generalizing p frames with
  | zero => exact of_quiet fun _ => rfl
  | succ fuel ih =>
    by_cases hend : w.length ≤ p
    · exact of_quiet fun u => by rw [parseLoop, if_pos hend]
    · have hwarn (c : Cause) : Parses s n (fun u => u.emit c (-1) ts) := emit c _ fun _ => ts
      cases hv : (validate s.cfg w p).1 with
      | truncated =>
        refine (hwarn .invalidLength).congr fun u hu => ?_
        simp only [parseLoop, if_neg hend, State.cfg_of_parseInputs hu, hv]
      | tooShort =>
        refine ((hwarn .invalidLength).comp (ih (validate s.cfg w p).2.2 frames)).congr fun u hu => ?_
        simp only [parseLoop, if_neg hend, State.cfg_of_parseInputs hu, hv]
      | badCrc =>
        refine ((hwarn .invalidCRC).comp (ih (validate s.cfg w p).2.2 frames)).congr fun u hu => ?_
        simp only [parseLoop, if_neg hend, State.cfg_of_parseInputs hu, hv]
      | good =>
        refine ((goodFrame (validate s.cfg w p).2.1 ts).comp
          (ih (validate s.cfg w p).2.2 frames)).congr fun u hu => ?_
        simp only [parseLoop, if_neg hend, State.cfg_of_parseInputs hu, hv]
        exact parseLoop_state_of_frames ..

theorem parseBatch : Parses s n (fun u => (u.parseBatch n.number n).1) := by
  have hrx {u : State} (hu : u.parseInputs = s.parseInputs) : u.frame.rx.get n = s.frame.rx.get n :=
    congrArg (PerSubnet.get · n) (State.rx_of_parseInputs hu)
  by_cases hempty : (s.frame.rx.get n).length = 0
  · refine (of_quiet fun _ => rfl).congr (g := id) fun u hu => ?_
    simp only [State.parseBatch, hrx hu, if_pos hempty, id]
  · by_cases hshort : (s.frame.rx.get n).length < 4
    · refine (emit .invalidLength (-1) (fun u => u.frame.rxts.get n)).congr fun u hu => ?_
      simp only [State.parseBatch, hrx hu, if_neg hempty, if_pos hshort]
    · have hstamp : Parses s n (fun u => u.setRxts n (batchTimestamp (s.frame.rx.get n))) :=
        of_runWrite (w := .rxts n _) rfl
      have hloop := loop (s := s) (n := n) (s.frame.rx.get n) (batchTimestamp (s.frame.rx.get n))
        (s.frame.rx.get n).length 4 0
      refine (hstamp.comp hloop).congr fun u hu => ?_
      simp only [State.parseBatch, hrx hu, if_neg hempty, if_neg hshort]

theorem parsed : Parses s n (fun u => u.parsed n) := by
  cases hs : s.ready with
  | false =>
    refine (of_quiet (f := fun u => u.respond .notConfigured .none) fun _ => rfl).congr fun u hu => ?_
    rw [State.parsed, State.ready_of_parseInputs hu, hs]
    rfl
  | true =>
    have hquiet (u : State) :
        ((u.parseBatch n.number n).1.respond .ok (.frames (u.parseBatch n.number n).2)).quiet =
          (u.parseBatch n.number n).1.quiet := rfl
    obtain ⟨l, hl, hrun⟩ := parseBatch (s := s) (n := n)
    refine ⟨l, hl, fun u hu => ?_⟩
    have hready : u.ready = true := (State.ready_of_parseInputs hu).trans hs
    dsimp only
    rw [State.parsed, if_pos hready, hquiet, hrun u hu]

end Parses

/-- Settles O31: each parse is a list of writes to its own subnet's elements, the same before and after the
other parse, and the two lists commute. -/
theorem parsesCommute : Obligations.ParsesCommute := by
  unfold Obligations.ParsesCommute
  intro s t1 t2 u1 u2 n m hne hd ht1 ht2 hu1 hu2
  rw [exec_parse] at ht1 ht2 hu1 hu2
  cases ht1
  cases ht2
  cases hu1
  cases hu2
  have hsame : ((s.parsed n).parsed m).quiet = ((s.parsed m).parsed n).quiet :=
    Parses.quiet_comm hne hd .parsed .parsed
  exact ⟨congrArg (fun t => t.frame.afs) hsame, congrArg (fun t => t.frame.hps) hsame,
    congrArg (fun t => t.frame.expectFa) hsame, congrArg (fun t => t.frame.expectHp) hsame,
    congrArg (fun t => t.frame.expectHm) hsame, congrArg (fun t => t.frame.rxts) hsame⟩

end Sys2Proof.Machine

/-! # The frame buffers (spec/10_state.md R29, R30, spec/41_frame_build.md R181 to R192)

Four instructions write `TXBUF` or `RXBUF` on a configured block; each keeps `BatchInv` by a lemma of its
own. Every other one leaves the buffers as they are. -/

namespace Sys2Proof.Machine

/-! ## What leaves the buffers as they are -/

/-- The registers `TXBUF`, `TXSTART`, `TXLEN`, `TXOPEN` and `RXBUF`, `RXLEN` (R29, R30). -/
def State.buffers (s : State) : PerSubnet TxBatch × PerSubnet (List Word16) := (s.frame.tx, s.frame.rx)

/-- A state with the buffers of `s`. -/
abbrev State.sameBuffers (s u : State) : Prop := u.buffers = s.buffers

theorem State.sameBuffers_of_frame {s u : State} (h : u.frame = s.frame) : s.sameBuffers u :=
  congrArg (fun f : FrameUnit => (f.tx, f.rx)) h

/-- `BatchInv` is about the buffers and the configuration alone. -/
theorem BatchInv.congr {s u : State} (h : BatchInv s) (hb : u.buffers = s.buffers) (hc : u.cfg = s.cfg) :
    BatchInv u := by
  simp only [State.buffers, Prod.mk.injEq] at hb
  obtain ⟨htx, hrx⟩ := hb
  unfold BatchInv
  rwa [htx, hrx, hc]

/-! ### FORCE, SAFETY and RAISE write nothing of FRAME -/

/-- A fold of updates that each keep the registers of FRAME keeps them. -/
theorem foldl_frame {α : Type} {f : State → α → State} (hf : ∀ s a, (f s a).frame = s.frame)
    (l : List α) (s : State) : (l.foldl f s).frame = s.frame := by
  induction l generalizing s with
  | nil => rfl
  | cons a r ih => rw [List.foldl_cons, ih, hf]

@[simp] theorem State.disableComps_frame (s : State) (cs : List Comp) :
    (s.disableComps cs).frame = s.frame := foldl_frame State.disableComp_frame cs s

@[simp] theorem State.enableComps_frame (s : State) (cs : List Comp) :
    (s.enableComps cs).frame = s.frame := foldl_frame State.enableComp_frame cs s

@[simp] theorem State.updateComp_frame (s : State) (c : Comp) : (s.updateComp c).frame = s.frame := by
  rcases updateComp_cases s c with ⟨_, h⟩ | ⟨_, _, h⟩ | ⟨_, _, h⟩
  · rw [h]
  · simp [h]
  · simp [h, State.postUpdate]

@[simp] theorem State.updateActive_frame (s : State) (c : Comp) : (s.updateActive c).frame = s.frame := by
  unfold State.updateActive
  split
  · exact State.updateComp_frame s c
  · rfl

@[simp] theorem State.processForces_frame (s : State) : s.processForces.frame = s.frame := by
  simp [State.processForces, State.checkFar, State.checkWeight, State.checkNear, State.checkMoments,
    State.convert, State.finalClip, State.sumForces]

@[simp] theorem State.timeOut_frame (s : State) : s.timeOut.frame = s.frame := by simp [State.timeOut]

@[simp] theorem State.raiseLoop_frame (s : State) (w : Bool) : (s.raiseLoop w).1.frame = s.frame := by
  unfold State.raiseLoop
  dsimp only
  split
  · rfl
  · split
    · simp
    · split
      · unfold State.progressUp
        dsimp only
        split <;> rfl
      · simp [State.endAirWait]

@[simp] theorem State.lowerLoop_frame (s : State) : s.lowerLoop.1.frame = s.frame := by
  unfold State.lowerLoop
  split
  · rfl
  · split
    · unfold State.progressDown
      dsimp only
      split <;> rfl
    · simp

@[simp] theorem State.sampleAll_frame (s : State) : s.sampleAll.frame = s.frame :=
  foldl_frame (fun t h => State.setHpc_frame t h _) Hp.all s

@[simp] theorem State.finish_frame (s : State) : s.finishComps.finishBalance.frame = s.frame := by
  unfold State.finishBalance
  split <;> simp [State.finishComps]

/-! ### The parser and the accounting write no buffer -/

@[simp] theorem State.emit_buffers (s : State) (c : Cause) (id : I32) (ts : U64) :
    (s.emit c id ts).buffers = s.buffers := rfl

@[simp] theorem State.bumpExpect_buffers (s : State) (e : IlcEntry) (d : I32) :
    (s.bumpExpect e d).buffers = s.buffers := by
  obtain ⟨_, _, _, _, h⟩ := s.frame.modifyExpect_eq e.type e.dataIndex (fun v => v + d)
  simp only [State.buffers, State.bumpExpect, h]

@[simp] theorem State.commit_buffers (s : State) (sub a g : Byte) (e : IlcEntry) (ws : List SlotWrite)
    (ts : U64) : (s.commit sub a g e ws ts).buffers = s.buffers := by
  obtain ⟨_, _, _, h⟩ := s.frame.writeUpdate_eq s.cfg e ws
  refine (State.bumpExpect_buffers _ e (-1)).trans ?_
  simp only [State.buffers, h]

@[simp] theorem State.frameBody_buffers (s : State) (sub a g : Byte) (p : List Byte) (ts : U64) :
    (s.frameBody sub a g p ts).1.buffers = s.buffers := by
  rcases frameBody_cases s sub a g p ts with ⟨c, id, h⟩ | ⟨e, _, h⟩ | ⟨e, code, ws, _, _, _, _, h⟩
  · simp [h]
  · rcases exceptionFrame_cases s e p ts with ⟨c, h'⟩ | ⟨c, h'⟩ <;> simp [h, h']
  · simp [h]

@[simp] theorem State.goodFrame_buffers (s : State) (sub : Byte) (body : List Byte) (ts : U64) :
    (s.goodFrame sub body ts).1.buffers = s.buffers := by
  unfold State.goodFrame
  split <;> simp

theorem parseLoop_buffers (sub : Byte) (w : List Word16) (ts : U64) (fuel p : Nat) (s : State) (n : Nat) :
    (parseLoop sub w ts fuel p s n).1.buffers = s.buffers := by
  induction fuel generalizing p s n with
  | zero => rfl
  | succ fuel ih =>
    rw [parseLoop]
    split
    · rfl
    · dsimp only
      split <;> simp [ih]

theorem State.parseBatch_buffers (s : State) (sub : Byte) (n : Subnet) :
    (s.parseBatch sub n).1.buffers = s.buffers := by
  unfold State.parseBatch
  dsimp only
  split
  · rfl
  · split
    · simp
    · exact parseLoop_buffers ..

theorem reconcileOne_buffers (ts : U64) (s : State) (k : ActType × Nat) :
    (reconcileOne ts s k).buffers = s.buffers := by
  unfold reconcileOne
  split
  · rfl
  · obtain ⟨_, _, _, _, h⟩ := FrameUnit.updateExpect_eq
      (s.emit .responseTimeout (idOf s.cfg k.1 k.2) ts).frame k.1 k.2 (fun _ => 0)
    simp only [State.buffers, h]
    rfl

theorem State.reconcile_buffers (s : State) (ts : U64) : (s.reconcile ts).buffers = s.buffers := by
  have hfold (l : List (ActType × Nat)) (u : State) :
      (l.foldl (reconcileOne ts) u).buffers = u.buffers := by
    induction l generalizing u with
    | nil => rfl
    | cons k l ih => rw [List.foldl_cons, ih, reconcileOne_buffers]
  exact hfold _ s

/-! ### Every instruction but four -/

/-- The instructions behind the gate of R16 that write a frame buffer (R181, R184, R186, R192). -/
def writesBuffer : Instr → Bool
  | .startSubnet _ | .append _ _ _ _ | .endSubnet _ | .waitIrq _ _ _ => true
  | _ => false

theorem runResponse_buffers (g sub a : Byte) (p : List Byte) (ts : U64) (s : State) :
    Ends s s.sameBuffers (runResponse g sub a p ts s) :=
  .gated (.done _ (State.frameBody_buffers s sub a g p ts))

theorem onComp_buffers (c : Byte) (s : State) {f : Comp → State} (hf : ∀ k, (f k).frame = s.frame) :
    Ends s s.sameBuffers (onComp c s f) := by
  refine .gated ?_
  split
  · exact .refuse (by decide)
  · exact .done _ (State.sameBuffers_of_frame (hf _))

/-- The cases are grouped by the shape of the instruction's pseudocode: which tests it makes before it
answers. -/
theorem exec_buffers (i : Instr) (s : State) (hi : ungated i = false) (hw : writesBuffer i = false) :
    Ends s s.sameBuffers (exec i s) := by
  cases i
  case reset | settingsLoad | mapBuild | pullTelemetry => cases hi
  case startSubnet | append | endSubnet | waitIrq => cases hw
  case crc16 | clearError | clearErrorCode | rlReset | spInc | spDec | spZero | spFill | spFilled
      | spZeroed | faFeInTol | hpForcesInTol =>
    exact .gated (.done _ rfl)
  case notifyIlcTimeout => exact .gated (.done _ (State.sameBuffers_of_frame (by simp)))
  case updateApplied =>
    exact .gated (.done _ (State.sameBuffers_of_frame (foldl_frame State.updateActive_frame Comp.all s)))
  case reconcile ts => exact .gated (.done _ (State.reconcile_buffers s ts))
  case getU8 | getI8 | getU16 | getI16 | getU32 | getI32 | getU64 | getI64 | getF32 | getF64
      | setU8 | setI8 | setU16 | setI16 | setU32 | setI32 | setU64 | setI64 | setF32 | setF64 =>
    refine .gated ?_
    split
    · exact .done _ rfl
    · exact .refused _ (by decide)
  case getStr =>
    refine .gated ?_
    split
    · exact .refused _ (by decide)
    · split
      · exact .refused _ (by decide)
      · split
        · exact .refused _ (by decide)
        · exact .done _ rfl
  case setStr =>
    refine .gated ?_
    split
    · exact .refused _ (by decide)
    · split
      · exact .refused _ (by decide)
      · exact .done _ rfl
  case send =>
    refine .gated ?_
    split
    · exact .refuse (by decide)
    · dsimp only
      split
      · exact .refuse (by decide)
      · exact .done _ rfl
  case validateCrc | raiseStart | lowerStart =>
    refine .gated ?_
    split
    · exact .refuse (by decide)
    · split
      · exact .refuse (by decide)
      · exact .done _ (State.sameBuffers_of_frame (by simp))
  case parse =>
    refine .gated ?_
    split
    · exact .refuse (by decide)
    · exact .done _ (State.parseBatch_buffers ..)
  case fcEnable c => exact onComp_buffers c s (State.enableComp_frame s)
  case fcDisable c | fcZero c => exact onComp_buffers c s (State.disableComp_frame s)
  case fcUpdate c => exact onComp_buffers c s (State.updateComp_frame s)
  case fcApply =>
    refine .gated ?_
    split
    · exact .refuse (by decide)
    · split
      · exact .done _ rfl
      · exact .refuse (by decide)
  case notify | notifyFaFollowingError | notifyHpMeasuredForce | notifyHpAirPressure =>
    refine .gated ?_
    split
    · exact .refuse (by decide)
    · exact .done _ (State.sameBuffers_of_frame (by simp))
  case hpcSample | hpcReset | hpcStatus =>
    refine .gated ?_
    split
    · exact .refuse (by decide)
    · exact .done _ rfl
  case checkSafety =>
    refine .gated ?_
    split <;> exact .done _ rfl
  case checkTimeout =>
    refine .gated (.done _ ?_)
    split
    · exact State.sameBuffers_of_frame (by simp)
    · rfl
  case raiseCheckComplete =>
    refine .gated ?_
    split
    · split
      · exact .done _ (State.sameBuffers_of_frame (by simp))
      · exact .done _ rfl
    · exact .refuse (by decide)
  case processApplied | raiseRunloop | raiseComplete | timeout | pause | resume | lowerRunloop
      | lowerCheckComplete | lowerComplete =>
    refine .gated ?_
    split
    · exact .done _ (State.sameBuffers_of_frame (by simp))
    · exact .refuse (by decide)
  all_goals exact runResponse_buffers _ _ _ _ _ s

/-! ## What writes a buffer -/

/-- What `BatchInv` says of one batch on its own. -/
def TxBatch.ok (c : FrameCfg) (n : Subnet) (b : TxBatch) : Prop :=
  batchForm n b ∧ b.len ≤ c.txCap ∧ (b.opened = true → b.len + 1 ≤ c.txCap)

/-- `BatchInv`, batch by batch: what is left beside `TxBatch.ok` is that one is open at most, and the room
of the RX buffers. -/
theorem batchInv_iff (s : State) : BatchInv s ↔
    (∀ n, (s.frame.tx.get n).ok s.cfg.frame n) ∧
      (∀ n m, (s.frame.tx.get n).opened = true → (s.frame.tx.get m).opened = true → n = m) ∧
      ∀ n, (s.frame.rx.get n).length ≤ s.cfg.frame.rxCap :=
  ⟨fun ⟨hform, hlen, hroom, hone, hrx⟩ => ⟨fun n => ⟨hform n, hlen n, hroom n⟩, hone, hrx⟩,
    fun ⟨hok, hone, hrx⟩ =>
      ⟨fun n => (hok n).1, fun n => (hok n).2.1, fun n => (hok n).2.2, hone, hrx⟩⟩

theorem BatchInv.ok {s : State} (h : BatchInv s) (n : Subnet) : (s.frame.tx.get n).ok s.cfg.frame n :=
  ((batchInv_iff s).mp h).1 n

theorem BatchInv.closed_of_open {s : State} (h : BatchInv s) {n : Subnet}
    (hn : (s.frame.tx.get n).opened = true) {m : Subnet} (hm : m ≠ n) :
    (s.frame.tx.get m).opened = false := by
  obtain ⟨_, hone, _⟩ := (batchInv_iff s).mp h
  exact Bool.eq_false_iff.mpr fun ho => hm (hone m n ho hn)

/-- The buffers of FRAME at their reset values, whatever the configuration. -/
theorem batchInv_init {s : State} {c : Cfg} (h : s.frame = FrameUnit.init c) : BatchInv s := by
  have htx (n : Subnet) : s.frame.tx.get n = TxBatch.init := h ▸ PerSubnet.get_pure _ n
  have hrx (n : Subnet) : s.frame.rx.get n = [] := h ▸ PerSubnet.get_pure _ n
  refine (batchInv_iff s).mpr ⟨fun n => ?_, fun n m hn => ?_, fun n => ?_⟩
  · rw [htx]
    exact ⟨.inl rfl, Nat.zero_le _, nofun⟩
  · rw [htx] at hn
    cases hn
  · rw [hrx]
    exact Nat.zero_le _

/-- One batch written: in form, and the only open one if it is open (R181). -/
theorem BatchInv.setTx {s : State} (h : BatchInv s) {n : Subnet} {b : TxBatch} (hb : b.ok s.cfg.frame n)
    (hother : ∀ m, m ≠ n → (s.frame.tx.get m).opened = false) : BatchInv (s.setTx n b) := by
  have hcell (m : Subnet) : ((s.setTx n b).frame.tx.get m) = if n = m then b else s.frame.tx.get m :=
    PerSubnet.get_set _ n m b
  have honly (m : Subnet) (hm : ((s.setTx n b).frame.tx.get m).opened = true) : m = n := by
    by_contra hne
    rw [hcell, if_neg (Ne.symm hne), hother m hne] at hm
    cases hm
  obtain ⟨_, _, hrx⟩ := (batchInv_iff s).mp h
  refine (batchInv_iff _).mpr ⟨fun m => ?_, fun m k hm hk => (honly m hm).trans (honly k hk).symm, hrx⟩
  rw [hcell]
  split
  · rename_i hnm
    exact hnm ▸ hb
  · exact h.ok m

theorem BatchInv.setRx {s : State} (h : BatchInv s) (n : Subnet) {w : List Word16}
    (hw : w.length ≤ s.cfg.frame.rxCap) : BatchInv (s.setRx n w) := by
  obtain ⟨hok, hone, hrx⟩ := (batchInv_iff s).mp h
  exact (batchInv_iff _).mpr
    ⟨hok, hone, PerSubnet.forall_get_set (p := fun w : List Word16 => w.length ≤ _) n hrx hw⟩

/-- An open batch is its header and what has been appended (R114). -/
theorem TxBatch.ok.of_open {c : FrameCfg} {n : Subnet} {b : TxBatch} (h : b.ok c n) (ho : b.opened = true) :
    b.start = 3 ∧ (∃ body, b.cells = batchHeader n ++ body) ∧ b.len + 1 ≤ c.txCap := by
  obtain ⟨hform, _, hroom⟩ := h
  rcases hform with rfl | ⟨_, hstart, hcells⟩ | ⟨hclosed, _⟩
  · cases ho
  · exact ⟨hstart, hcells, hroom ho⟩
  · rw [hclosed] at ho
    cases ho

/-- A batch just started: the header alone (R181). -/
theorem TxBatch.ok_header {c : FrameCfg} (n : Subnet) (h : 4 ≤ c.txCap) :
    TxBatch.ok c n ⟨batchHeader n, 3, true⟩ :=
  ⟨.inr (.inl ⟨rfl, rfl, [], rfl⟩), Nat.le_of_succ_le h, fun _ => h⟩

/-- Cells appended to an open batch, room left for the `TriggerIrq` cell (R184). -/
theorem TxBatch.ok.append {c : FrameCfg} {n : Subnet} {b : TxBatch} (h : b.ok c n) (ho : b.opened = true)
    {cells : List Cell} (hroom : b.len + cells.length + 1 ≤ c.txCap) :
    TxBatch.ok c n { b with cells := b.cells ++ cells } := by
  obtain ⟨hstart, ⟨body, hbody⟩, _⟩ := h.of_open ho
  have hlen : TxBatch.len { b with cells := b.cells ++ cells } = b.len + cells.length :=
    List.length_append
  refine ⟨.inr (.inl ⟨ho, hstart, body ++ cells, ?_⟩), ?_, fun _ => ?_⟩
  · rw [hbody, List.append_assoc]
  · omega
  · omega

/-- A batch closed: its length byte is the number of cells appended (R123, R186). -/
theorem TxBatch.ok.close {c : FrameCfg} {n : Subnet} {b : TxBatch} (h : b.ok c n) (ho : b.opened = true)
    (hlen : b.len - b.start ≤ 255) :
    TxBatch.ok c n ⟨(b.cells ++ [Cell.triggerIrq]).set 1 (.data (BitVec.ofNat 8 (b.len - b.start))),
      b.start, false⟩ := by
  obtain ⟨hstart, ⟨body, hbody⟩, hroom⟩ := h.of_open ho
  have hcount : b.len - b.start = body.length := by
    rw [TxBatch.len, hbody, hstart, List.length_append]
    exact Nat.add_sub_cancel_left ..
  rw [hcount] at hlen ⊢
  refine ⟨.inr (.inr ⟨rfl, hstart, body, hlen, ?_⟩), ?_, nofun⟩
  · rw [hbody]
    rfl
  · simpa [TxBatch.len] using hroom

theorem otherOpen_eq_false {s : State} {n : Subnet} (h : otherOpen s n ≠ true) (m : Subnet) (hm : m ≠ n) :
    (s.frame.tx.get m).opened = false := by
  have hmem : m ∈ Subnet.others n := by
    rw [Subnet.others, List.mem_filter]
    exact ⟨by cases m <;> decide, bne_iff_ne.mpr hm⟩
  exact Bool.eq_false_iff.mpr fun ho => h (List.any_eq_true.mpr ⟨m, hmem, ho⟩)

theorem execStartSubnet_batchInv {s : State} (h : BatchInv s) (sub : Byte) :
    Ends s BatchInv (execStartSubnet sub s) := by
  refine .gated ?_
  split
  · exact .refuse (by decide)
  · rename_i n _
    split
    · exact .refuse (by decide)
    · rename_i hother
      split
      · exact .refuse (by decide)
      · rename_i hcap
        exact .done _ (h.setTx (TxBatch.ok_header n (Nat.le_of_not_lt hcap)) (otherOpen_eq_false hother))

/-- The bytes of a frame, its two CRC bytes, the end marker and the directive (R111). -/
theorem frameCells_length (c : Cfg) (f : FnCode) (body : List Byte) :
    (frameCells c f body).length = body.length + 4 := by
  simp [frameCells, crcField]

theorem execAppend_batchInv {s : State} (h : BatchInv s) (sub a f : Byte) (args : AppendArgs) :
    Ends s BatchInv (execAppend sub a f args s) := by
  refine .gated ?_
  split
  · exact .refuse (by decide)
  · rename_i n _
    dsimp only
    split
    · exact .refuse (by decide)
    · rename_i hopen
      have ho : (s.frame.tx.get n).opened = true := by simpa using hopen
      split
      · exact .refuse (by decide)
      · rename_i e code p _
        split
        · exact .refuse (by decide)
        · rename_i hroom
          have hroom' : (s.frame.tx.get n).len + (frameCells s.cfg code (a :: f :: p)).length + 1 ≤
              s.cfg.frame.txCap := by
            rw [frameCells_length, List.length_cons, List.length_cons]
            omega
          have hset := h.setTx ((h.ok n).append ho hroom') fun m hm => h.closed_of_open ho hm
          exact .done _ (hset.congr (State.bumpExpect_buffers _ e 1) rfl)

theorem execEndSubnet_batchInv {s : State} (h : BatchInv s) (sub : Byte) :
    Ends s BatchInv (execEndSubnet sub s) := by
  refine .gated ?_
  split
  · exact .refuse (by decide)
  · rename_i n _
    dsimp only
    split
    · exact .refuse (by decide)
    · rename_i hopen
      have ho : (s.frame.tx.get n).opened = true := by simpa using hopen
      split
      · exact .refuse (by decide)
      · rename_i hlen
        exact .done _ (h.setTx ((h.ok n).close ho (Nat.le_of_not_lt hlen)) fun m hm => h.closed_of_open ho hm)

theorem execWaitIrq_batchInv {s : State} (h : BatchInv s) (sub : Byte) (irq : Bool) (rx : List Word16) :
    Ends s BatchInv (execWaitIrq sub irq rx s) := by
  refine .gated ?_
  split
  · exact .refuse (by decide)
  · rename_i n _
    split
    · split
      · exact .refuse (by decide)
      · rename_i hcap
        exact .done _ (h.setRx n (Nat.le_of_not_lt hcap))
    · exact .done _ (h.setRx n (Nat.zero_le _))

theorem execSettingsLoad_batchInv (c : Cfg) (s : State) : Ends s BatchInv (execSettingsLoad c s) := by
  unfold execSettingsLoad
  split
  · exact .refuse (by decide)
  · split
    · exact .refuse (by decide)
    · exact .done _ (batchInv_init rfl)

theorem execMapBuild_batchInv {s : State} (h : BatchInv s) : Ends s BatchInv (execMapBuild s) := by
  unfold execMapBuild
  split
  · exact .refuse (by decide)
  · split
    · exact .refuse (by decide)
    · exact .done _ h

/-! ## Every step -/

/-- An operation that keeps the configuration and the buffers keeps the invariant. -/
theorem BatchInv.of_ends {s t : State} (h : BatchInv s) {o : Host.Outcome State Fault Refusal}
    (hc : Ends s s.sameConfig o) (hb : Ends s s.sameBuffers o) (ho : o = .next t) : BatchInv t := by
  subst ho
  have hcfg : t.config = s.config := hc.next_of rfl fun _ _ _ hu => hu
  exact h.congr (hb.next_of rfl fun _ _ _ hu => hu) (congrArg Prod.fst hcfg)

theorem exec_batchInv {s t : State} (h : BatchInv s) (i : Instr) (hexec : exec i s = .next t) :
    BatchInv t := by
  have hends (ho : Ends s BatchInv (exec i s)) : BatchInv t :=
    (hexec ▸ ho).next_of h fun _ _ _ hu => hu
  cases hw : writesBuffer i with
  | true =>
    cases i
    case startSubnet sub => exact hends (execStartSubnet_batchInv h sub)
    case append sub a f args => exact hends (execAppend_batchInv h sub a f args)
    case endSubnet sub => exact hends (execEndSubnet_batchInv h sub)
    case waitIrq sub irq rx => exact hends (execWaitIrq_batchInv h sub irq rx)
    all_goals cases hw
  | false =>
    cases hi : ungated i with
    | false => exact h.of_ends (exec_ends_of_gated i s hi) (exec_buffers i s hi hw) hexec
    | true =>
      cases i
      case reset => exact hends (.done _ (batchInv_init rfl))
      case pullTelemetry v => exact hends (.done _ h)
      case settingsLoad c => exact hends (execSettingsLoad_batchInv c s)
      case mapBuild => exact hends (execMapBuild_batchInv h)
      all_goals cases hi

theorem runInput_batchInv {s t : State} {x : Input} (h : BatchInv s) (hrun : runInput x s = .next t) :
    BatchInv t := by
  cases hdec : decodeInput x with
  | ok i =>
    rw [runInput_of_ok hdec] at hrun
    exact exec_batchInv h i hrun
  | error e =>
    rw [runInput_of_error hdec] at hrun
    rcases rejectInput_cases hrun with rfl | rfl | ⟨sub, ts, body, hodd⟩ | rfl
    · exact batchInv_init rfl
    · exact h
    · exact h.of_ends (runOddFrame_ends sub ts body s)
        (.gated (.done _ (State.goodFrame_buffers s sub body ts))) hodd
    · exact h

/-- Settles O10: `START_SUBNET`, `APPEND`, `END_SUBNET` and `WAIT_IRQ` keep the form of what they write, a
reset and `SETTINGS_LOAD` empty the buffers, and nothing else writes them. -/
theorem batchesKept : Obligations.BatchesKept := by
  unfold Obligations.BatchesKept
  intro s t hs hstep
  cases hin : s.inputs with
  | nil =>
    rw [step_of_empty hin] at hstep
    cases hstep
    exact hs
  | cons x rest =>
    rw [step_of_cons hin] at hstep
    exact runInput_batchInv (s := { s with inputs := rest }) hs hstep

end Sys2Proof.Machine

/-! # Decode and encode (spec/30_encoding.md R126, R127, R140) -/

namespace Sys2Proof.Machine

/-- A command whose operand record its operation's reader reads back. -/
theorem decodeInput_of_reads {op : Byte} {r : Reader Instr} {bs : List Byte} {i : Instr}
    (hop : operandReader op = some r) (h : Reads r bs i) : decodeInput (.command (op :: bs)) = .ok i := by
  have hr : r bs = some (i, []) := by simpa using h []
  simp only [decodeInput, decodeCommand, hop, hr]

/-- A response frame with a function byte of the catalogue (R126). -/
theorem decodeResponse_code (f : FnCode) (s a : Byte) (p : List Byte) (ts : U64) :
    decodeInput (.response s ts (a :: f.code :: p)) = .ok (responseInstr f s a p ts) := by
  cases f <;> rfl

/-- An exception byte has bit 7 set, and its other bits are the request's function (R127). -/
theorem exceptionByte_parts (f : BitVec 7) :
    128 ≤ (exceptionByte f).toNat ∧ BitVec.ofNat 7 (exceptionByte f).toNat = f := by
  revert f
  decide

theorem decodeResponse_exception (f : BitVec 7) (s a : Byte) (p : List Byte) (ts : U64) :
    decodeInput (.response s ts (a :: exceptionByte f :: p)) = .ok (.exceptionResponse s a f p ts) := by
  obtain ⟨hbit, hcode⟩ := exceptionByte_parts f
  simp only [decodeInput, decodeResponse, if_pos hbit, hcode]

/-! ## The records of the codec's operations -/

/-- A buffer and a cursor. -/
theorem reads_access {mk : List Cell → Nat → Instr} {buf : List Cell} {cur : Nat}
    (h : bufFits buf cur = true) : Reads (r2 mk rBuf rNat) (eBuf buf ++ eNat cur) (mk buf cur) := by
  simp only [bufFits, Bool.and_eq_true] at h
  obtain ⟨⟨hlen, hcells⟩, hcur⟩ := h
  exact reads_r2 mk (reads_buf hlen hcells) (reads_nat hcur)

/-- A buffer, a cursor and a value. -/
theorem reads_accessValue {α : Type} {mk : List Cell → Nat → α → Instr} {buf : List Cell} {cur : Nat}
    {rv : Reader α} {bs : List Byte} {v : α} (h : bufFits buf cur = true) (hv : Reads rv bs v) :
    Reads (r3 mk rBuf rNat rv) (eBuf buf ++ eNat cur ++ bs) (mk buf cur v) := by
  simp only [bufFits, Bool.and_eq_true] at h
  obtain ⟨⟨hlen, hcells⟩, hcur⟩ := h
  exact reads_r3 mk (reads_buf hlen hcells) (reads_nat hcur) hv

/-! ## Every instruction -/

/-- Settles O4: the reader of each operation takes the record its encoder writes, operand by operand. -/
theorem roundTrip : Obligations.RoundTrip := by
  unfold Obligations.RoundTrip
  intro i hi
  cases i
  case getU8 | getI8 | getU16 | getI16 | getU32 | getI32 | getU64 | getI64 | getF32 | getF64 | getStr =>
    exact decodeInput_of_reads rfl (reads_access hi)
  case setU8 v => exact decodeInput_of_reads rfl (reads_accessValue hi (reads_u8 v))
  case setU16 v => exact decodeInput_of_reads rfl (reads_accessValue hi (reads_u16 v))
  case setU32 v | setF32 v => exact decodeInput_of_reads rfl (reads_accessValue hi (reads_u32 v))
  case setU64 v | setF64 v => exact decodeInput_of_reads rfl (reads_accessValue hi (reads_u64 v))
  case setI8 | setI16 | setI32 | setI64 =>
    simp only [wellFormed, Bool.and_eq_true] at hi
    exact decodeInput_of_reads rfl (reads_accessValue hi.1 (reads_int (by decide) hi.2))
  case setStr =>
    simp only [wellFormed, Bool.and_eq_true] at hi
    exact decodeInput_of_reads rfl (reads_accessValue hi.1 (reads_bytes hi.2))
  case crc16 => exact decodeInput_of_reads rfl (reads_r1 _ (reads_bytes hi))
  case startSubnet | endSubnet | send | fcEnable | fcDisable | fcZero | fcUpdate | checkSafety | hpcReset
      | hpcStatus =>
    exact decodeInput_of_reads rfl (reads_r1 _ (reads_u8 _))
  case append =>
    exact decodeInput_of_reads rfl (reads_r4 _ (reads_u8 _) (reads_u8 _) (reads_u8 _) (reads_args hi))
  case waitIrq =>
    exact decodeInput_of_reads rfl (reads_r3 _ (reads_u8 _) (reads_bool _) (reads_words hi))
  case parse => exact decodeInput_of_reads rfl (reads_r2 _ (reads_u8 _) (reads_optU8 _))
  case reconcile | checkTimeout | pause | resume | lowerStart | pullTelemetry =>
    exact decodeInput_of_reads rfl (reads_r1 _ (reads_u64 _))
  case validateCrc => exact decodeInput_of_reads rfl (reads_r2 _ (reads_u8 _) (reads_nat hi))
  case fcApply =>
    simp only [wellFormed, Bool.and_eq_true] at hi
    obtain ⟨⟨hx, hy⟩, hz⟩ := hi
    exact decodeInput_of_reads rfl
      (reads_r4 _ (reads_u8 _) (reads_f32s hx) (reads_f32s hy) (reads_f32s hz))
  case notify | notifyHpMeasuredForce | notifyHpAirPressure =>
    exact decodeInput_of_reads rfl (reads_r3 _ (reads_u8 _) (reads_bool _) (reads_bytes hi))
  case notifyFaFollowingError =>
    simp only [wellFormed, Bool.and_eq_true] at hi
    exact decodeInput_of_reads rfl (reads_r3 _ (reads_nat hi.1) (reads_bool _) (reads_bytes hi.2))
  case settingsLoad => exact decodeInput_of_reads rfl (reads_r1 _ (reads_cfg hi))
  case raiseStart => exact decodeInput_of_reads rfl (reads_r2 _ (reads_bool _) (reads_u64 _))
  case raiseRunloop | raiseCheckComplete | hpForcesInTol =>
    exact decodeInput_of_reads rfl (reads_r1 _ (reads_bool _))
  case hpcSample => exact decodeInput_of_reads rfl (reads_r2 _ (reads_u8 _) (reads_u32 _))
  case mapBuild | updateApplied | processApplied | notifyIlcTimeout | clearError | clearErrorCode
      | raiseComplete | timeout | rlReset | lowerRunloop | lowerCheckComplete | lowerComplete | spInc
      | spDec | spZero | spFill | spFilled | spZeroed | faFeInTol | reset =>
    exact decodeInput_of_reads rfl (reads_pure _)
  case exceptionResponse s a f p ts => exact decodeResponse_exception f s a p ts
  all_goals exact decodeResponse_code _ _ _ _ _

/-- Settles O1: each record and each body is read byte by byte. -/
theorem decodeSampleWords : Obligations.DecodeSampleWords := by
  unfold Obligations.DecodeSampleWords
  exact ⟨rfl, rfl, rfl, rfl, rfl, rfl, rfl, rfl, rfl⟩

end Sys2Proof.Machine

/-! # CRC-16 (spec/30_encoding.md R120, R122, R213)

The register loses nothing: a shift, and so a byte read, is injective in it, and injective in the byte.
That finds every change of one byte. The residue is a matter of shifting out what the CRC field cancels. -/

namespace Sys2Proof

/-! ## Nothing of the register is lost -/

theorem crcShift_getLsbD (c : BitVec 16) (i : Nat) :
    (crcShift c).getLsbD i = (c.getLsbD (i + 1) ^^ (c.getLsbD 0 && (0xA001 : BitVec 16).getLsbD i)) := by
  unfold crcShift
  split
  · rename_i h
    rw [h, BitVec.getLsbD_xor, BitVec.getLsbD_ushiftRight, Nat.add_comm, Bool.true_and]
  · rename_i h
    rw [Bool.not_eq_true] at h
    rw [h, BitVec.getLsbD_ushiftRight, Nat.add_comm, Bool.false_and, Bool.xor_false]

/-- The top bit of the polynomial is set, so the bit shifted out is the top bit of the result. -/
theorem crcShift_injective : Function.Injective crcShift := by
  intro c d h
  have hbit (i : Nat) := congrArg (fun x : BitVec 16 => x.getLsbD i) h
  simp only [crcShift_getLsbD] at hbit
  have hlow : c.getLsbD 0 = d.getLsbD 0 := by
    have h15 := hbit 15
    rw [BitVec.getLsbD_of_ge c 16 (by decide), BitVec.getLsbD_of_ge d 16 (by decide)] at h15
    simpa using h15
  refine BitVec.eq_of_getLsbD_eq fun i _ => ?_
  cases i with
  | zero => exact hlow
  | succ i =>
    have hi := hbit i
    rw [hlow] at hi
    exact Bool.xor_left_inj.mp hi

theorem crcShifts_injective (n : Nat) : Function.Injective (crcShifts n) := by
  induction n with
  | zero => exact fun c d h => h
  | succ n ih => exact ih.comp crcShift_injective

theorem crcByte_injective_register (b : Byte) : Function.Injective (crcByte · b) := fun _ _ h =>
  (BitVec.xor_left_inj _).mp (crcShifts_injective 8 h)

theorem crcByte_injective_byte (c : BitVec 16) : Function.Injective (crcByte c) := by
  intro b d h
  have hext := (BitVec.xor_right_inj _).mp (crcShifts_injective 8 h)
  have hnat := congrArg BitVec.toNat hext
  simp only [BitVec.truncate_eq_setWidth, BitVec.toNat_setWidth] at hnat
  exact BitVec.eq_of_toNat_eq (by omega)

theorem crcFrom_injective (bs : List Byte) : Function.Injective (crcFrom · bs) := by
  induction bs with
  | nil => exact fun c d h => h
  | cons b bs ih => exact ih.comp (crcByte_injective_register b)

theorem crc16_append (bs post : List Byte) : crc16 (bs ++ post) = crcFrom (crc16 bs) post :=
  List.foldl_append

/-- Two frames that differ in one byte have different CRCs. -/
theorem crc16_ne_of_byte_ne (pre post : List Byte) {b c : Byte} (h : b ≠ c) :
    crc16 (pre ++ b :: post) ≠ crc16 (pre ++ c :: post) := by
  rw [crc16_append, crc16_append]
  exact fun heq => h (crcByte_injective_byte _ (crcFrom_injective post heq))

/-! ## The CRC field -/

theorem crcField_injective : Function.Injective crcField := by
  intro c d h
  simp only [crcField, List.cons.injEq, and_true] at h
  obtain ⟨hlo, hhi⟩ := h
  have hlo := congrArg BitVec.toNat hlo
  have hhi := congrArg BitVec.toNat hhi
  simp only [BitVec.extractLsb'_toNat, Nat.shiftRight_eq_div_pow] at hlo hhi
  exact BitVec.eq_of_toNat_eq (by omega)

/-- As long as zeros are shifted out, the polynomial does not come in. -/
theorem crcShifts_of_low_zero (n : Nat) (c : BitVec 16) (h : ∀ i, i < n → c.getLsbD i = false) :
    crcShifts n c = c >>> n := by
  induction n generalizing c with
  | zero => simp [crcShifts]
  | succ n ih =>
    have hshift : crcShift c = c >>> 1 := by
      rw [crcShift, h 0 (Nat.succ_pos n)]
      rfl
    rw [crcShifts, hshift, ih, ← BitVec.shiftRight_add, Nat.add_comm]
    intro i hi
    rw [BitVec.getLsbD_ushiftRight, Nat.add_comm]
    exact h (i + 1) (by omega)

/-- Reading the register's own low byte leaves its high byte. -/
theorem crcByte_low (c : BitVec 16) : crcByte c (c.extractLsb' 0 8) = c >>> 8 := by
  rw [crcByte, crcShifts_of_low_zero]
  · refine BitVec.eq_of_getLsbD_eq fun i _ => ?_
    simp
  · intro i hi
    simp [hi]
    omega

/-- Reading a register's high byte from that byte alone leaves zero. -/
theorem crcByte_high (c : BitVec 16) : crcByte (c >>> 8) (c.extractLsb' 8 8) = 0 := by
  have hzero : c >>> 8 ^^^ BitVec.zeroExtend 16 (c.extractLsb' 8 8) = 0 := by
    refine BitVec.eq_of_getLsbD_eq fun i hi => ?_
    by_cases h8 : i < 8
    · simp [hi, h8]
    · simp [h8, BitVec.getLsbD_of_ge c (8 + i) (by omega)]
  rw [crcByte, hzero]
  rfl

/-- A frame with its CRC field has residue 0 (R122). -/
theorem crc16_residue (bs : List Byte) : crc16 (bs ++ crcField (crc16 bs)) = 0 := by
  rw [crc16_append]
  change crcByte (crcByte (crc16 bs) _) _ = 0
  rw [crcByte_low, crcByte_high]

end Sys2Proof

namespace Sys2Proof.Machine

/-- The verdict on a body and two bytes (R213): good exactly when they are the body's CRC field. -/
theorem crcVerdict_append {body field : List Byte} (hbody : 2 ≤ body.length) (hfield : field.length = 2) :
    crcVerdict (body ++ field) =
      if field = crcField (crc16 body) then (.good, body) else (.badCrc, []) := by
  have hlen : ¬ (body ++ field).length < 4 := by
    rw [List.length_append]
    omega
  have hcut : (body ++ field).length - 2 = body.length := by
    rw [List.length_append, hfield, Nat.add_sub_cancel]
  unfold crcVerdict
  dsimp only
  rw [if_neg hlen, hcut, List.take_left, List.drop_left]

/-- Settles O22: the residue is what shifting out the CRC field leaves, and one byte changed changes the CRC
because no step of it loses anything. -/
theorem crcDetectsOneByte : Obligations.CrcDetectsOneByte := by
  unfold Obligations.CrcDetectsOneByte
  refine ⟨fun s bs hs => whenReady_ready hs _, crc16_residue, fun pre post b c hbc hlen => ⟨?_, ?_⟩⟩
  · rw [crcVerdict_append hlen rfl, if_pos rfl]
  · rw [crcVerdict_append (by simpa using hlen) rfl, if_neg]
    exact fun h => crc16_ne_of_byte_ne pre post hbc (crcField_injective h)

end Sys2Proof.Machine

/-! # Reads and writes of fixed width (spec/30_encoding.md R125, spec/40_codec.md R152 to R172) -/

namespace Sys2Proof.Machine

/-! ## Bytes as the word they make -/

theorem beNat_byte (b : Byte) : beNat [b] = b.toNat := by simp [beNat]

/-- One more byte on the right, in the list and in the word (R83). -/
theorem beNat_append_byte {n : Nat} {bs : List Byte} {v : BitVec n} (h : beNat bs = v.toNat) (b : Byte) :
    beNat (bs ++ [b]) = (v ++ b).toNat := by
  rw [toNat_append_byte, ← h, beNat, List.foldl_append]
  rfl

theorem beNat_pair (a b : Byte) : beNat [a, b] = (a ++ b).toNat := beNat_append_byte (beNat_byte a) b

theorem beNat_doubleWord (a b c d e f g h : Byte) :
    beNat [a, b, c, d, e, f, g, h] = (a ++ b ++ c ++ d ++ e ++ f ++ g ++ h).toNat :=
  beNat_append_byte (beNat_append_byte (beNat_append_byte (beNat_append_byte (beNat_word a b c d) e) f) g) h

theorem ofNat_beNat {n : Nat} {bs : List Byte} {v : BitVec n} (h : beNat bs = v.toNat) :
    BitVec.ofNat n (beNat bs) = v := by
  rw [h, BitVec.ofNat_toNat, BitVec.setWidth_eq]

/-- The two's-complement value of a word of `n` bytes (R10). -/
theorem signedNat_toNat {n : Nat} (hn : 1 ≤ n) (v : BitVec (8 * n)) : signedNat n v.toNat = v.toInt := by
  have hpow : 2 ^ (8 * n) = 2 * 2 ^ (8 * n - 1) := by
    rw [← Nat.pow_succ']
    congr 1
    omega
  have hhalf : 2 * v.toNat < 2 ^ (8 * n) ↔ v.toNat < 2 ^ (8 * n - 1) := by omega
  rw [signedNat, BitVec.toInt_eq_toNat_cond, if_congr hhalf rfl rfl, Int.natCast_pow]
  rfl

theorem getUnsigned_eq {n : Nat} {bs : List Byte} {v : BitVec n} (h : beNat bs = v.toNat) :
    getUnsigned bs = .unsigned v.toNat := congrArg _ h

theorem getSigned_eq {n : Nat} {bs : List Byte} {v : BitVec (8 * n)} (hn : 1 ≤ n)
    (h : beNat bs = v.toNat) : getSigned n bs = .signed v.toInt := by
  rw [getSigned, h, signedNat_toNat hn]

/-! ## Words as the bytes they stand for -/

/-- The encoder's bytes of a word are those of R125. -/
theorem beBytes_eq_bytesOf {w : Nat} (n : Nat) (v : BitVec w) : beBytes n v.toNat = bytesOf n v := by
  induction n with
  | zero => rfl
  | succ n ih =>
    have hhead : BitVec.ofNat 8 (v.toNat / 256 ^ n) = v.extractLsb' (8 * n) 8 := by
      rw [BitVec.extractLsb', Nat.shiftRight_eq_div_pow, Nat.pow_mul]
    rw [beBytes, ih, hhead, bytesOf, bytesOf, List.range_succ_eq_map, List.map_cons, List.map_map]
    refine congrArg₂ _ rfl (List.map_congr_left fun k _ => ?_)
    rw [Function.comp_apply, Nat.add_sub_cancel, Nat.succ_eq_add_one, Nat.sub_add_eq, Nat.sub_right_comm]

/-- A signed value is written as its two's complement (R10). -/
theorem beBytes_truncInt (n : Nat) (v : Int) :
    beBytes n (truncInt n v) = bytesOf n (BitVec.ofInt (8 * n) v) := by
  have htrunc : truncInt n v = (BitVec.ofInt (8 * n) v).toNat := by
    rw [BitVec.toNat_ofInt, truncInt, Int.natCast_pow]
    rfl
  rw [htrunc, beBytes_eq_bytesOf]

/-! ## Accesses where the bytes stand -/

section
variable {s : State} (hs : s.ready = true)
include hs

/-- A read of data bytes that stand at the cursor (R151). -/
theorem codecGet_data (pre post : List Cell) (bs : List Byte) {mk : List Byte → CodecValue}
    {x : CodecValue} (h : mk bs = x) :
    codecGet (pre ++ (bs.map Cell.data ++ post)) pre.length bs.length mk s =
      .next (s.respond .ok (.read x (pre.length + bs.length))) :=
  h ▸ codecGet_of_some hs (memRead_of_append pre bs post)

/-- A write where the buffer has room (R151). -/
theorem codecSet_room {buf : List Cell} {cur n : Nat} {bs bs' : List Byte} (hroom : cur + n ≤ buf.length)
    (hlen : bs.length = n) (h : bs = bs') :
    codecSet buf cur bs s = .next (s.respond .ok (.written (storedAt buf cur bs') (cur + n))) := by
  subst hlen h
  rw [codecSet, whenReady_ready hs, memWrite, if_neg (Nat.not_lt.mpr hroom)]
  rfl

theorem codecSet_unsigned {buf : List Cell} {cur n w : Nat} (hroom : cur + n ≤ buf.length) (v : BitVec w) :
    codecSet buf cur (beBytes n v.toNat) s =
      .next (s.respond .ok (.written (storedAt buf cur (bytesOf n v)) (cur + n))) :=
  codecSet_room hs hroom (beBytes_length ..) (beBytes_eq_bytesOf n v)

theorem codecSet_signed {buf : List Cell} {cur n : Nat} (hroom : cur + n ≤ buf.length) (v : Int) :
    codecSet buf cur (beBytes n (truncInt n v)) s =
      .next (s.respond .ok
        (.written (storedAt buf cur (bytesOf n (BitVec.ofInt (8 * n) v))) (cur + n))) :=
  codecSet_room hs hroom (beBytes_length ..) (beBytes_truncInt n v)

theorem codecSet_float {buf : List Cell} {cur n w : Nat} (hroom : cur + n ≤ buf.length) (o : FloatOrder)
    (v : BitVec w) :
    codecSet buf cur (floatBytes o (beBytes n v.toNat)) s =
      .next (s.respond .ok (.written (storedAt buf cur (floatBytes o (bytesOf n v))) (cur + n))) :=
  codecSet_room hs hroom ((floatBytes_length o _).trans (beBytes_length ..))
    (congrArg (floatBytes o) (beBytes_eq_bytesOf n v))

end

/-- Settles O17: the bytes at the cursor are read whole, and are the big-endian bytes of the word in the
answer; a little-endian float's are read from the last to the first. -/
theorem fixedWidthReads : Obligations.FixedWidthReads := by
  unfold Obligations.FixedWidthReads
  intro s pre post hs
  refine ⟨fun b0 => ⟨?_, ?_⟩, fun b0 b1 => ⟨?_, ?_⟩, fun b0 b1 b2 b3 => ⟨?_, ?_, ?_⟩,
    fun b0 b1 b2 b3 b4 b5 b6 b7 => ⟨?_, ?_, ?_⟩⟩
  · exact codecGet_data hs pre post [b0] (getUnsigned_eq (beNat_byte b0))
  · exact codecGet_data hs pre post [b0] (getSigned_eq (n := 1) (by decide) (beNat_byte b0))
  · exact codecGet_data hs pre post [b0, b1] (getUnsigned_eq (beNat_pair b0 b1))
  · exact codecGet_data hs pre post [b0, b1] (getSigned_eq (n := 2) (by decide) (beNat_pair b0 b1))
  · exact codecGet_data hs pre post [b0, b1, b2, b3] (getUnsigned_eq (beNat_word ..))
  · exact codecGet_data hs pre post [b0, b1, b2, b3] (getSigned_eq (n := 4) (by decide) (beNat_word ..))
  · refine codecGet_data hs pre post [b0, b1, b2, b3] ?_
    cases s.cfg.frame.floatOrder with
    | big => exact congrArg CodecValue.f32 (ofNat_beNat (beNat_word ..))
    | little => exact congrArg CodecValue.f32 (ofNat_beNat (beNat_word ..))
  · exact codecGet_data hs pre post [b0, b1, b2, b3, b4, b5, b6, b7] (getUnsigned_eq (beNat_doubleWord ..))
  · exact codecGet_data hs pre post [b0, b1, b2, b3, b4, b5, b6, b7]
      (getSigned_eq (n := 8) (by decide) (beNat_doubleWord ..))
  · refine codecGet_data hs pre post [b0, b1, b2, b3, b4, b5, b6, b7] ?_
    cases s.cfg.frame.floatOrder with
    | big => exact congrArg CodecValue.f64 (ofNat_beNat (beNat_doubleWord ..))
    | little => exact congrArg CodecValue.f64 (ofNat_beNat (beNat_doubleWord ..))

/-- Settles O18: with room, a write stores its bytes and nothing else, and they are the bytes of R125. -/
theorem fixedWidthWrites : Obligations.FixedWidthWrites := by
  unfold Obligations.FixedWidthWrites
  intro s buf cur hs
  exact ⟨fun h => ⟨codecSet_unsigned hs h, codecSet_signed hs h⟩,
    fun h => ⟨codecSet_unsigned hs h, codecSet_signed hs h⟩,
    fun h => ⟨codecSet_unsigned hs h, codecSet_signed hs h, codecSet_float hs h _⟩,
    fun h => ⟨codecSet_unsigned hs h, codecSet_signed hs h, codecSet_float hs h _⟩⟩

end Sys2Proof.Machine

/-! # Strings, and the round trip of every type (spec/40_codec.md R162, R173, R175)

Both rest on one inversion of a write: answering `OK`, it has stored its bytes and moved the cursor past them.
A read at the old cursor then finds those bytes, and the value they make is the value written. -/

namespace Sys2Proof.Machine

/-! ## Bytes written and read back -/

theorem bytesOf_length {w : Nat} (n : Nat) (v : BitVec w) : (bytesOf n v).length = n := by
  rw [bytesOf, List.length_map, List.length_range]

theorem beNat_beBytes_toNat (n : Nat) (v : BitVec (8 * n)) : beNat (beBytes n v.toNat) = v.toNat := by
  rw [beNat_beBytes]
  refine Nat.mod_eq_of_lt ?_
  have hpow : 256 ^ n = 2 ^ (8 * n) := (Nat.pow_mul 2 8 n).symm
  exact hpow ▸ v.isLt

theorem beNat_bytesOf (n : Nat) (v : BitVec (8 * n)) : beNat (bytesOf n v) = v.toNat :=
  beBytes_eq_bytesOf n v ▸ beNat_beBytes_toNat n v

/-- A signed value in range is written as the word it is the value of (R10). -/
theorem beBytes_truncInt_toInt (n : Nat) (v : BitVec (8 * n)) :
    beBytes n (truncInt n v.toInt) = beBytes n v.toNat := by
  rw [beBytes_truncInt, BitVec.ofInt_toInt, beBytes_eq_bytesOf]

theorem floatBytes_floatBytes (o : FloatOrder) (bs : List Byte) : floatBytes o (floatBytes o bs) = bs := by
  cases o with
  | big => rfl
  | little => exact List.reverse_reverse bs

/-- A float's bits, in either order, come back as they were (R83). -/
theorem ofNat_beNat_floatBytes (n : Nat) (o : FloatOrder) (v : BitVec (8 * n)) :
    BitVec.ofNat (8 * n) (beNat (floatBytes o (floatBytes o (beBytes n v.toNat)))) = v := by
  rw [floatBytes_floatBytes]
  exact ofNat_beNat (beNat_beBytes_toNat n v)

/-! ## What an answered write has done -/

/-- A response tells its status and its data. -/
theorem respond_inj {s : State} {st st' : Status} {d d' : RspData}
    (h : (.next (s.respond st d) : Host.Outcome State Fault Refusal) = .next (s.respond st' d')) :
    st = st' ∧ d = d' := by
  have hstate : s.respond st d = s.respond st' d' := by injection h
  have hrsp : some (Response.mk st d) = some (Response.mk st' d') := congrArg State.rsp hstate
  cases hrsp
  exact ⟨rfl, rfl⟩

section
variable {s : State} {buf buf' : List Cell} {cur q : Nat}

/-- A write that answers a cursor has moved it past its bytes (R151). -/
theorem codecSet_cursor {bs : List Byte} (hs : s.ready = true)
    (h : codecSet buf cur bs s = .next (s.respond .ok (.written buf' q))) : q = cur + bs.length := by
  have hw := codecSet_written hs h
  rw [codecSet, whenReady_ready hs, hw] at h
  obtain ⟨-, hdata⟩ := respond_inj h
  cases hdata
  rfl

/-- A read of as many bytes as were written finds them, and ends where the write did. -/
theorem codecGet_after_codecSet {bs : List Byte} {mk : List Byte → CodecValue} (hs : s.ready = true)
    (h : codecSet buf cur bs s = .next (s.respond .ok (.written buf' q))) :
    codecGet buf' cur bs.length mk s = .next (s.respond .ok (.read (mk bs) q)) := by
  rw [codecSet_cursor hs h]
  exact codecGet_of_some hs (memRead_after_memWrite (codecSet_written hs h))

end

/-- A type of fixed width agrees when its reader makes the value of the bytes its writer stores. Both may
depend on the state, by `cfg.floatOrder`. -/
theorem agrees_of_fixedWidth {set get : List Cell → Nat → Instr} {x : CodecValue} {n : Nat}
    {bytes : State → List Byte} {mk : State → List Byte → CodecValue}
    (hset : ∀ buf cur s, exec (set buf cur) s = codecSet buf cur (bytes s) s)
    (hget : ∀ buf cur s, exec (get buf cur) s = codecGet buf cur n (mk s) s)
    (hlen : ∀ s, (bytes s).length = n) (hval : ∀ s, mk s (bytes s) = x) : Agrees set get x := by
  intro s buf buf' cur q hs h
  rw [hset] at h
  rw [hget, ← hlen s, ← hval s]
  exact codecGet_after_codecSet hs h

section
variable {set get : List Cell → Nat → Instr}

theorem agrees_unsigned (n : Nat) (v : BitVec (8 * n))
    (hset : ∀ buf cur s, exec (set buf cur) s = codecSet buf cur (beBytes n v.toNat) s)
    (hget : ∀ buf cur s, exec (get buf cur) s = codecGet buf cur n getUnsigned s) :
    Agrees set get (.unsigned v.toNat) :=
  agrees_of_fixedWidth hset hget (fun _ => beBytes_length ..)
    fun _ => getUnsigned_eq (beNat_beBytes_toNat n v)

theorem agrees_signed (n : Nat) (hn : 1 ≤ n) (v : BitVec (8 * n))
    (hset : ∀ buf cur s, exec (set buf cur) s = codecSet buf cur (beBytes n (truncInt n v.toInt)) s)
    (hget : ∀ buf cur s, exec (get buf cur) s = codecGet buf cur n (getSigned n) s) :
    Agrees set get (.signed v.toInt) :=
  agrees_of_fixedWidth hset hget (fun _ => beBytes_length ..)
    fun _ => getSigned_eq hn (beBytes_truncInt_toInt n v ▸ beNat_beBytes_toNat n v)

theorem agrees_float (n : Nat) (v : BitVec (8 * n)) {mk : BitVec (8 * n) → CodecValue}
    (hset : ∀ buf cur s, exec (set buf cur) s =
      codecSet buf cur (floatBytes s.cfg.frame.floatOrder (beBytes n v.toNat)) s)
    (hget : ∀ buf cur s, exec (get buf cur) s = codecGet buf cur n
      (fun bs => mk (BitVec.ofNat (8 * n) (beNat (floatBytes s.cfg.frame.floatOrder bs)))) s) :
    Agrees set get (mk v) :=
  agrees_of_fixedWidth hset hget (fun _ => (floatBytes_length ..).trans (beBytes_length ..))
    fun _ => congrArg mk (ofNat_beNat_floatBytes n _ v)

end

/-! ## The answers of `GET_STR` and `SET_STR` -/

section
variable {s : State} {buf : List Cell} {cur : Nat}

theorem strLength_of_word {n : BitVec 32} (h : memRead buf cur 4 = some (bytesOf 4 n)) :
    strLength buf cur = some n.toInt := by
  rw [strLength, h]
  exact congrArg some ((congrArg (signedNat 4) (beNat_bytesOf 4 n)).trans
    (signedNat_toNat (n := 4) (by decide) n))

theorem execGetStr_no_length (hs : s.ready = true) (h : memRead buf cur 4 = none) :
    execGetStr buf cur s = .next (s.respond .decodeError (.codecError (some (cur, 4)) buf cur)) := by
  rw [execGetStr, whenReady_ready hs, strLength, h]

theorem execGetStr_negative {l : Int} (hs : s.ready = true) (hl : strLength buf cur = some l)
    (hneg : l < 0) :
    execGetStr buf cur s = .next (s.respond .decodeError (.codecError none buf cur)) := by
  rw [execGetStr, whenReady_ready hs, hl]
  exact if_pos hneg

/-- Behind a length that is not negative, `GET_STR` is a read of that many bytes whose refusal hands back the
cursor before the length (R162). -/
theorem execGetStr_nonneg {k : Nat} (hs : s.ready = true) (hl : strLength buf cur = some (k : Int)) :
    (∀ v, memRead buf (cur + 4) k = some v →
      execGetStr buf cur s = .next (s.respond .ok (.read (.str v) (cur + 4 + k)))) ∧
    (memRead buf (cur + 4) k = none → execGetStr buf cur s =
      .next (s.respond .decodeError (.codecError (some (cur + 4, k)) buf cur))) := by
  rw [execGetStr, whenReady_ready hs, hl]
  dsimp only
  rw [if_neg (Int.not_lt.mpr (Int.natCast_nonneg k)), Int.toNat_natCast]
  constructor
  · intro v h
    rw [h]
    rfl
  · intro h
    rw [h]

theorem execSetStr_refused {v : List Byte} (hs : s.ready = true)
    (h : 2 ^ 31 ≤ v.length ∨ buf.length < cur + 4 + v.length) :
    execSetStr buf cur v s = .next (s.respond .encodeError (.codecError none buf cur)) := by
  rw [execSetStr, whenReady_ready hs]
  split
  · rfl
  · have hroom : memWrite buf cur (beBytes 4 v.length ++ v) = none := by
      rw [memWrite_eq_none_iff, List.length_append, beBytes_length]
      omega
    rw [hroom]

theorem execSetStr_of_some {v : List Byte} {buf' : List Cell} (hs : s.ready = true)
    (hlen : v.length < 2 ^ 31) (h : memWrite buf cur (beBytes 4 v.length ++ v) = some buf') :
    execSetStr buf cur v s = .next (s.respond .ok (.written buf' (cur + 4 + v.length))) := by
  rw [execSetStr, whenReady_ready hs, if_neg (by omega), h]
  rfl

end

/-- A string's length as `SET_STR` writes it is the word of that value (R173). -/
theorem beBytes_strLength {v : List Byte} (h : v.length < 2 ^ 31) :
    beBytes 4 v.length = bytesOf 4 (BitVec.ofNat 32 v.length) := by
  rw [← beBytes_eq_bytesOf, BitVec.toNat_ofNat, Nat.mod_eq_of_lt (by omega)]

theorem toInt_strLength {k : Nat} (h : k < 2 ^ 31) : (BitVec.ofNat 32 k).toInt = (k : Int) := by
  rw [BitVec.toInt_eq_toNat_cond, BitVec.toNat_ofNat, Nat.mod_eq_of_lt (by omega), if_pos (by omega)]

/-- `GET_STR` where a length and as many bytes as it says can be read (R162). -/
theorem execGetStr_of_some {s : State} {buf : List Cell} {cur : Nat} {v : List Byte} (hs : s.ready = true)
    (hlen : v.length < 2 ^ 31)
    (hpre : memRead buf cur 4 = some (bytesOf 4 (BitVec.ofNat 32 v.length)))
    (hstr : memRead buf (cur + 4) v.length = some v) :
    execGetStr buf cur s = .next (s.respond .ok (.read (.str v) (cur + 4 + v.length))) := by
  have hl : strLength buf cur = some (v.length : Int) :=
    toInt_strLength hlen ▸ strLength_of_word hpre
  exact (execGetStr_nonneg hs hl).1 v hstr

/-- What a `SET_STR` that answers a buffer has done (R173). -/
theorem execSetStr_written {s : State} {buf buf' : List Cell} {cur q : Nat} {v : List Byte}
    (hs : s.ready = true)
    (h : execSetStr buf cur v s = .next (s.respond .ok (.written buf' q))) :
    v.length < 2 ^ 31 ∧ memWrite buf cur (beBytes 4 v.length ++ v) = some buf' ∧
      q = cur + 4 + v.length := by
  by_cases hbad : 2 ^ 31 ≤ v.length ∨ buf.length < cur + 4 + v.length
  · rw [execSetStr_refused hs hbad] at h
    obtain ⟨hstatus, -⟩ := respond_inj h
    cases hstatus
  · obtain ⟨hlen, hroom⟩ := not_or.mp hbad
    have hfits : ¬ buf.length < cur + (beBytes 4 v.length ++ v).length := by
      rw [List.length_append, beBytes_length]
      omega
    have hw : memWrite buf cur (beBytes 4 v.length ++ v) = some _ := if_neg hfits
    rw [execSetStr_of_some hs (Nat.lt_of_not_le hlen) hw] at h
    obtain ⟨-, hdata⟩ := respond_inj h
    cases hdata
    exact ⟨Nat.lt_of_not_le hlen, hw, rfl⟩

theorem agrees_string (v : List Byte) : Agrees (fun b c => .setStr b c v) .getStr (.str v) := by
  intro s buf buf' cur q hs h
  obtain ⟨hlen, hw, rfl⟩ := execSetStr_written hs h
  rw [beBytes_strLength hlen] at hw
  have hpre : memRead buf' (cur + 0) 4 = some (bytesOf 4 (BitVec.ofNat 32 v.length)) :=
    memRead_part (pre := []) hw rfl (bytesOf_length ..)
  have hstr : memRead buf' (cur + 4) v.length = some v :=
    memRead_part (post := []) (by rwa [List.append_nil]) (bytesOf_length ..) rfl
  exact execGetStr_of_some hs hlen hpre hstr

/-- Settles O21: what a write stored is what a read of the same width finds, and reading undoes writing for
each kind of value; a string's length word tells the read how long the string is. -/
theorem codecRoundTrip : Obligations.CodecRoundTrip := by
  unfold Obligations.CodecRoundTrip
  exact ⟨fun v => agrees_unsigned 1 v (fun _ _ _ => rfl) fun _ _ _ => rfl,
    fun v => agrees_unsigned 2 v (fun _ _ _ => rfl) fun _ _ _ => rfl,
    fun v => agrees_unsigned 4 v (fun _ _ _ => rfl) fun _ _ _ => rfl,
    fun v => agrees_unsigned 8 v (fun _ _ _ => rfl) fun _ _ _ => rfl,
    fun v => agrees_signed 1 (by decide) v (fun _ _ _ => rfl) fun _ _ _ => rfl,
    fun v => agrees_signed 2 (by decide) v (fun _ _ _ => rfl) fun _ _ _ => rfl,
    fun v => agrees_signed 4 (by decide) v (fun _ _ _ => rfl) fun _ _ _ => rfl,
    fun v => agrees_signed 8 (by decide) v (fun _ _ _ => rfl) fun _ _ _ => rfl,
    fun v => agrees_float 4 v (mk := .f32) (fun _ _ _ => rfl) fun _ _ _ => rfl,
    fun v => agrees_float 8 v (mk := .f64) (fun _ _ _ => rfl) fun _ _ _ => rfl,
    agrees_string⟩

/-! ## Strings in a buffer -/

/-- Where a read has no answer (R84). -/
theorem memRead_eq_none {buf : List Cell} {pos n : Nat}
    (h : buf.length < pos + n ∨
      ∃ (k : Nat) (c : Cell), pos ≤ k ∧ k < pos + n ∧ buf[k]? = some c ∧ ∀ b, c ≠ .data b) :
    memRead buf pos n = none := by
  rcases h with hpast | ⟨k, c, hk, hkn, hget, hc⟩
  · exact memRead_past_end hpast
  · exact memRead_of_control hk hkn hget hc

/-- The cells before the position do not matter to a read. -/
theorem memRead_append_left (pre cells : List Cell) (n : Nat) :
    memRead (pre ++ cells) pre.length n = memRead cells 0 n := by
  rw [memRead, memRead, List.length_append, List.drop_left, List.drop_zero, Nat.zero_add]
  exact if_congr Nat.add_lt_add_iff_left rfl rfl

section
variable (pre post : List Cell) (n : BitVec 32)

/-- The cells behind a string's length word, as `GET_STR` reads them. -/
theorem memRead_behind_length (k : Nat) :
    memRead (pre ++ ((bytesOf 4 n).map Cell.data ++ post)) (pre.length + 4) k = memRead post 0 k := by
  have hlen : (pre ++ (bytesOf 4 n).map Cell.data).length = pre.length + 4 := by
    rw [List.length_append, List.length_map, bytesOf_length]
  rw [← List.append_assoc, ← hlen, memRead_append_left]

theorem memRead_length_word :
    memRead (pre ++ ((bytesOf 4 n).map Cell.data ++ post)) pre.length 4 = some (bytesOf 4 n) :=
  bytesOf_length 4 n ▸ memRead_of_append pre (bytesOf 4 n) post

end

section
variable {s : State} (hs : s.ready = true)
include hs

theorem execGetStr_whole (pre post : List Cell) {v : List Byte} (hlen : v.length < 2 ^ 31) :
    execGetStr (pre ++ ((bytesOf 4 (BitVec.ofNat 32 v.length) ++ v).map Cell.data ++ post)) pre.length s =
      .next (s.respond .ok (.read (.str v) (pre.length + 4 + v.length))) := by
  rw [List.map_append, List.append_assoc]
  refine execGetStr_of_some hs hlen (memRead_length_word ..) ?_
  rw [memRead_behind_length]
  exact memRead_of_append [] v post

theorem execGetStr_msb (pre post : List Cell) {n : BitVec 32} (hn : n.msb = true) :
    execGetStr (pre ++ ((bytesOf 4 n).map Cell.data ++ post)) pre.length s =
      .next (s.respond .decodeError
        (.codecError none (pre ++ ((bytesOf 4 n).map Cell.data ++ post)) pre.length)) :=
  execGetStr_negative hs (strLength_of_word (memRead_length_word pre post n))
    (BitVec.toInt_neg_of_msb_true hn)

theorem execGetStr_truncated (pre : List Cell) {post : List Cell} {n : BitVec 32} (hn : n.msb = false)
    (hbad : post.length < n.toNat ∨
      ∃ (k : Nat) (c : Cell), k < n.toNat ∧ post[k]? = some c ∧ ∀ b, c ≠ .data b) :
    execGetStr (pre ++ ((bytesOf 4 n).map Cell.data ++ post)) pre.length s =
      .next (s.respond .decodeError (.codecError (some (pre.length + 4, n.toNat))
        (pre ++ ((bytesOf 4 n).map Cell.data ++ post)) pre.length)) := by
  have hl := strLength_of_word (memRead_length_word pre post n)
  rw [BitVec.toInt_eq_toNat_of_msb hn] at hl
  refine (execGetStr_nonneg hs hl).2 ?_
  rw [memRead_behind_length]
  refine memRead_eq_none ?_
  rw [Nat.zero_add]
  exact hbad.imp_right fun ⟨k, c, hk, hcell⟩ => ⟨k, c, Nat.zero_le k, hk, hcell⟩

theorem execSetStr_room {buf : List Cell} {cur : Nat} {v : List Byte} (hlen : v.length < 2 ^ 31)
    (hroom : cur + 4 + v.length ≤ buf.length) :
    execSetStr buf cur v s = .next (s.respond .ok (.written
      (storedAt buf cur (bytesOf 4 (BitVec.ofNat 32 v.length) ++ v)) (cur + 4 + v.length))) := by
  refine execSetStr_of_some hs hlen ?_
  rw [beBytes_strLength hlen]
  refine if_neg ?_
  rw [List.length_append, bytesOf_length]
  omega

end

/-- Settles O19: the length word says how many bytes the read takes behind it, or that it takes none; a write
has room for length and string together or stores neither. -/
theorem strings : Obligations.Strings := by
  unfold Obligations.Strings
  intro s hs
  exact ⟨fun pre post v hlen => execGetStr_whole hs pre post hlen,
    fun pre post n => ⟨execGetStr_msb hs pre post, execGetStr_truncated hs pre⟩,
    fun buf cur v => ⟨fun hbad => execGetStr_no_length hs (memRead_eq_none hbad), execSetStr_room hs,
      execSetStr_refused hs⟩⟩

end Sys2Proof.Machine

/-! # What the frame builder and the transport operations answer (spec/41_frame_build.md R181 to R192)

One equation per operation on a configured block: past the gate of R16 and the subnet's number, what is left is
the tests of the rule. O24, O25 and O26 are the branches of these equations. -/

namespace Sys2Proof.Machine

/-! ## The tests on the operands -/

theorem Subnet.ofByte_of_outside {b : Byte} (h : b.toNat = 0 ∨ 5 < b.toNat) : Subnet.ofByte b = none :=
  (Subnet.ofByte_eq_none_iff b).mpr (by omega)

theorem otherOpen_of_opened {s : State} {n m : Subnet} (hm : m ≠ n)
    (ho : (s.frame.tx.get m).opened = true) : otherOpen s n = true := by
  by_contra hother
  rw [otherOpen_eq_false hother m hm] at ho
  cases ho

theorem otherOpen_of_closed {s : State} {n : Subnet}
    (h : ∀ m, m ≠ n → (s.frame.tx.get m).opened = false) : otherOpen s n = false := by
  refine List.any_eq_false.mpr fun m hm => ?_
  obtain ⟨_, hne⟩ := List.mem_filter.mp hm
  exact Bool.eq_false_iff.mp (h m (bne_iff_ne.mp hne))

/-- The function bytes of the catalogue leave bit 7 to the exception responses (R126, R127). -/
theorem FnCode.code_lt (f : FnCode) : f.code.toNat < 128 := by cases f <;> decide

theorem FnCode.ofByte_code (f : FnCode) : FnCode.ofByte f.code = some f := by cases f <;> rfl

theorem recognised_code {c : Cfg} {t : ActType} {f : FnCode} (h : ⟨t, f⟩ ∈ c.frame.recognised) :
    recognised c t f.code = some f := by
  rw [recognised, FnCode.ofByte_code]
  exact if_pos (List.contains_iff_mem.mpr h)

/-! ## The parts of an `APPEND` (R184) -/

section
variable {s : State} {n : Subnet} {a : Byte} (args : AppendArgs)

theorem appendParts_eq_none {g : Byte}
    (h : a.toNat = 255 ∨ 128 ≤ g.toNat ∨ (mapGet (s.frame.ilcMap.get n) a.toNat).type = .unknown ∨
      recognised s.cfg (mapGet (s.frame.ilcMap.get n) a.toNat).type g = none) :
    appendParts s n a g args = none := by
  unfold appendParts
  split
  · rfl
  · rename_i hbytes
    obtain ⟨ha, hg⟩ := not_or.mp hbytes
    dsimp only
    split
    · rfl
    · rename_i htype
      have hrec : recognised s.cfg (mapGet (s.frame.ilcMap.get n) a.toNat).type g = none := by
        rcases h with h | h | h | h
        · exact absurd (BitVec.eq_of_toNat_eq h) ha
        · exact absurd h hg
        · exact absurd h htype
        · exact h
      rw [hrec]

/-- Where no test on the operands fails, the layout alone says whether there is a frame. -/
theorem appendParts_of_recognised {f : FnCode} (ha : a.toNat ≠ 255)
    (ht : (mapGet (s.frame.ilcMap.get n) a.toNat).type ≠ .unknown)
    (hf : ⟨(mapGet (s.frame.ilcMap.get n) a.toNat).type, f⟩ ∈ s.cfg.frame.recognised) :
    appendParts s n a f.code args =
      (encodeParams s.cfg.tables f (mapGet (s.frame.ilcMap.get n) a.toNat) (axisOf a) args).map
        fun p => (mapGet (s.frame.ilcMap.get n) a.toNat, f, p) := by
  have hbytes : ¬ (a = 255 ∨ 128 ≤ f.code.toNat) :=
    not_or.mpr ⟨fun h => ha (congrArg BitVec.toNat h), Nat.not_le.mpr (FnCode.code_lt f)⟩
  rw [appendParts, if_neg hbytes]
  dsimp only
  rw [if_neg ht, recognised_code hf]
  dsimp only
  cases encodeParams s.cfg.tables f (mapGet (s.frame.ilcMap.get n) a.toNat) (axisOf a) args <;> rfl

end

/-! ## What a payload may depend on (R128, R131, R227) -/

theorem milliBytes_length {v : Option F32} {p : List Byte} (h : milliBytes v = some p) : p.length = 4 := by
  unfold milliBytes at h
  split at h
  · cases h
  · split at h
    · cases h
    · cases h
      exact beBytes_length ..

/-- The bytes of a function 75 request of the test functions: four for each force value. -/
def tcDemandWidth : Axis → Nat
  | .single => 4
  | .dual => 8

/-- The bytes of a function 75 request to a force actuator: fixed by the table set and the axis class. -/
def demandWidth : TableSet → Axis → Nat
  | .openSet n => requestWidth n
  | .tc | .tcHigh => tcDemandWidth

theorem demandWidth_single_lt_dual (k : TableSet) : demandWidth k .single < demandWidth k .dual := by
  cases k with
  | openSet n => exact requestWidth_single_lt_dual n
  | tc | tcHigh => exact (by decide : 4 < 8)

theorem tcEncodeParams_demand_length {ax : Axis} {args : AppendArgs} {p : List Byte}
    (h : tcEncodeParams .forceDemand ax args = some p) : p.length = tcDemandWidth ax := by
  cases ax with
  | single => exact milliBytes_length h
  | dual =>
    rw [tcEncodeParams] at h
    split at h
    · rename_i hp hq
      cases h
      rw [List.length_append, milliBytes_length hp, milliBytes_length hq]
      rfl
    · cases h

theorem encodeParams_demand_length {k : TableSet} {e : IlcEntry} {ax : Axis} {args : AppendArgs}
    {p : List Byte} (he : e.type = .forceActuator)
    (h : encodeParams k .forceDemand e ax args = some p) : p.length = demandWidth k ax := by
  cases k with
  | openSet n =>
    rw [encodeParams, if_pos ⟨he, rfl⟩] at h
    obtain ⟨hlen, _⟩ := forceRequest_some h
    exact hlen
  | tc | tcHigh => exact tcEncodeParams_demand_length h

theorem encodeParams_single_eq_dual {f : FnCode} (h75 : f ≠ .forceDemand) (h76 : f ≠ .pneumaticForceStatus)
    (k : TableSet) (e : IlcEntry) (args : AppendArgs) :
    encodeParams k f e .single args = encodeParams k f e .dual args := by
  cases k with
  | openSet n =>
    have hopen (ax : Axis) :
        encodeParams (.openSet n) f e ax args = Config.encodeParams n f e .single args := by
      rw [encodeParams, if_neg fun ⟨_, hf⟩ => h75 hf, payloadAxis_eq_single h75 h76]
    rw [hopen, hopen]
  | tc | tcHigh =>
    cases f
    case forceDemand => exact absurd rfl h75
    all_goals rfl

/-! ## One equation per operation -/

/-- The cells of a frame with its CRC written out (R111, R122). -/
theorem frameCells_eq (c : Cfg) (f : FnCode) (body : List Byte) :
    frameCells c f body = body.map Cell.data ++
      [.data ((crc16 body).extractLsb' 0 8), .data ((crc16 body).extractLsb' 8 8), .endOfFrame,
        .directive (timingOf c f).1 (timingOf c f).2] := by
  rw [frameCells, crcField, List.map_append, List.append_assoc]
  rfl

/-- The state after a frame of function `f` with parameters `p` to the actuator of `e` (R184). -/
def State.appended (s : State) (n : Subnet) (a : Byte) (e : IlcEntry) (f : FnCode) (p : List Byte) : State :=
  (s.setTx n { s.frame.tx.get n with
    cells := (s.frame.tx.get n).cells ++ frameCells s.cfg f (a :: f.code :: p) }).bumpExpect e 1

section
variable {s : State} (hs : s.ready = true)
include hs

theorem execStartSubnet_outside {b : Byte} (h : Subnet.ofByte b = none) :
    execStartSubnet b s = .next (s.respond .badOperand .none) := by
  rw [execStartSubnet, whenReady_ready hs, h, State.refuse_eq]

theorem execStartSubnet_ready (n : Subnet) : execStartSubnet n.number s =
    if otherOpen s n then .next (s.respond .badState .none)
    else if s.cfg.frame.txCap < 4 then .next (s.respond .encodeError .none)
    else .next ((s.setTx n ⟨batchHeader n, 3, true⟩).respond .ok .none) := by
  rw [execStartSubnet, whenReady_ready hs, Subnet.ofByte_number]
  rfl

theorem execAppend_outside {k : Byte} (h : Subnet.ofByte k = none) (a g : Byte) (args : AppendArgs) :
    execAppend k a g args s = .next (s.respond .badState .none) := by
  rw [execAppend, whenReady_ready hs, h, State.refuse_eq]

theorem execAppend_closed {n : Subnet} (ho : (s.frame.tx.get n).opened = false) (a g : Byte)
    (args : AppendArgs) : execAppend n.number a g args s = .next (s.respond .badState .none) := by
  rw [execAppend, whenReady_ready hs, Subnet.ofByte_number]
  dsimp only
  rw [ho]
  rfl

theorem execAppend_of_none {n : Subnet} {a g : Byte} {args : AppendArgs}
    (ho : (s.frame.tx.get n).opened = true) (h : appendParts s n a g args = none) :
    execAppend n.number a g args s = .next (s.respond .badOperand .none) := by
  rw [execAppend, whenReady_ready hs, Subnet.ofByte_number]
  dsimp only
  rw [ho, h]
  rfl

theorem execAppend_of_some {n : Subnet} {a : Byte} {args : AppendArgs} {e : IlcEntry} {f : FnCode}
    {p : List Byte} (ho : (s.frame.tx.get n).opened = true)
    (h : appendParts s n a f.code args = some (e, f, p)) :
    execAppend n.number a f.code args s =
      if s.cfg.frame.txCap < (s.frame.tx.get n).len + p.length + 7 then
        .next (s.respond .encodeError .none)
      else .next ((s.appended n a e f p).respond .ok .none) := by
  have hopen : ¬ (!(s.frame.tx.get n).opened) = true := by rw [ho]; exact Bool.false_ne_true
  rw [execAppend, whenReady_ready hs, Subnet.ofByte_number]
  dsimp only
  rw [if_neg hopen, h]
  rfl

theorem execEndSubnet_outside {b : Byte} (h : Subnet.ofByte b = none) :
    execEndSubnet b s = .next (s.respond .badState .none) := by
  rw [execEndSubnet, whenReady_ready hs, h, State.refuse_eq]

theorem execEndSubnet_ready (n : Subnet) : execEndSubnet n.number s =
    if (s.frame.tx.get n).opened = false then .next (s.respond .badState .none)
    else if 255 < (s.frame.tx.get n).len - (s.frame.tx.get n).start then
      .next (s.respond .buildOverflow .none)
    else .next ((s.setTx n ⟨((s.frame.tx.get n).cells ++ [Cell.triggerIrq]).set 1
      (.data (BitVec.ofNat 8 ((s.frame.tx.get n).len - (s.frame.tx.get n).start))),
      (s.frame.tx.get n).start, false⟩).respond .ok .none) := by
  rw [execEndSubnet, whenReady_ready hs, Subnet.ofByte_number]
  exact if_congr (by rw [Bool.not_eq_true']) rfl rfl

theorem execSend_outside {b : Byte} (h : Subnet.ofByte b = none) :
    execSend b s = .next (s.respond .badState .none) := by
  rw [execSend, whenReady_ready hs, h, State.refuse_eq]

theorem execSend_ready (n : Subnet) : execSend n.number s =
    if (s.frame.tx.get n).opened = true ∨ (s.frame.tx.get n).len = 0 then
      .next (s.respond .badState .none)
    else .next (State.respond { s with
      txOut := s.txOut.set n (s.txOut.get n ++ batchWords s.cfg (s.frame.tx.get n)) } .ok .none) := by
  rw [execSend, whenReady_ready hs, Subnet.ofByte_number]
  exact if_congr (by rw [Bool.or_eq_true, beq_iff_eq]) rfl rfl

theorem execWaitIrq_outside {b : Byte} (h : Subnet.ofByte b = none) (irq : Bool) (rx : List Word16) :
    execWaitIrq b irq rx s = .next (s.respond .badOperand .none) := by
  rw [execWaitIrq, whenReady_ready hs, h, State.refuse_eq]

/-- No interrupt in time: whatever was drawn is not looked at (R192). -/
theorem execWaitIrq_timeout (n : Subnet) (rx : List Word16) : execWaitIrq n.number false rx s =
    .next ((s.setRx n []).respond .ok (.timedOut true)) := by
  rw [execWaitIrq, whenReady_ready hs, Subnet.ofByte_number]
  rfl

theorem execWaitIrq_irq (n : Subnet) (rx : List Word16) : execWaitIrq n.number true rx s =
    if s.cfg.frame.rxCap < rx.length then .next (s.respond .badOperand .none)
    else .next ((s.setRx n rx).respond .ok (.timedOut false)) := by
  rw [execWaitIrq, whenReady_ready hs, Subnet.ofByte_number]
  rfl

end

/-! ## What R181, R184, R186, R190 and R192 ask -/

/-- Settles O24: the three tests of R181 in their order, the header where none of them fails. -/
theorem startSubnet : Obligations.StartSubnet := by
  unfold Obligations.StartSubnet
  refine fun s hs => ⟨fun b hb => execStartSubnet_outside hs (Subnet.ofByte_of_outside hb), fun n => ?_⟩
  have htests := execStartSubnet_ready hs n
  refine ⟨fun ⟨m, hm, ho⟩ => htests.trans (if_pos (otherOpen_of_opened hm ho)), fun hclosed => ?_⟩
  have hroom := htests.trans (if_neg (ne_true_of_eq_false (otherOpen_of_closed hclosed)))
  exact ⟨fun hcap => hroom.trans (if_pos hcap), fun hcap => hroom.trans (if_neg (Nat.not_lt.mpr hcap))⟩

/-- Settles O25: the frame is the layout's payload between the address and the CRC; the width of a function 75
request and the axis class a layout sees are facts of the layouts alone. -/
theorem append : Obligations.Append := by
  unfold Obligations.Append
  intro s n a g args hs
  dsimp only
  refine ⟨fun k hk => execAppend_outside hs (Subnet.ofByte_of_outside hk) a g args,
    fun ho => execAppend_closed hs ho a g args, fun ho => ⟨fun hbad =>
      execAppend_of_none hs ho (appendParts_eq_none args hbad), fun f ha ht hf => ?_⟩, ?_, ?_⟩
  · have hparts := appendParts_of_recognised args ha ht hf
    refine ⟨fun hnone => ?_, fun p hp => ?_⟩
    · rw [hnone] at hparts
      exact execAppend_of_none hs ho hparts
    · rw [hp] at hparts
      have hroom := execAppend_of_some hs ho hparts
      rw [State.appended, frameCells_eq] at hroom
      exact ⟨fun hcap => hroom.trans (if_pos hcap), fun hcap => hroom.trans (if_neg (Nat.not_lt.mpr hcap))⟩
  · intro e1 e2 args1 args2 p1 p2 he1 he2 hp1 hp2
    rw [encodeParams_demand_length he1 hp1, encodeParams_demand_length he2 hp2]
    exact demandWidth_single_lt_dual s.cfg.tables
  · exact fun f h75 h76 => encodeParams_single_eq_dual h75 h76 s.cfg.tables _ args

/-- Settles O26: the branches of the equations of `END_SUBNET`, `SEND` and `WAIT_IRQ`. -/
theorem closeSendWait : Obligations.CloseSendWait := by
  unfold Obligations.CloseSendWait
  refine fun s hs => ⟨fun b hb => ?_, fun n => ?_⟩
  · have hsub := Subnet.ofByte_of_outside hb
    exact ⟨execEndSubnet_outside hs hsub, execSend_outside hs hsub, execWaitIrq_outside hs hsub⟩
  · have hend := execEndSubnet_ready hs n
    have hsend := execSend_ready hs n
    have hwait := execWaitIrq_irq hs n
    refine ⟨fun ho => hend.trans (if_pos ho), fun ho l hl => ?_,
      fun hrefused => hsend.trans (if_pos hrefused), fun ho hlen => ?_, execWaitIrq_timeout hs n,
      fun rx hcap => (hwait rx).trans (if_neg (Nat.not_lt.mpr hcap)),
      fun rx hcap => (hwait rx).trans (if_pos hcap)⟩
    · subst hl
      have hlength := hend.trans (if_neg (ne_false_of_eq_true ho))
      exact ⟨fun hlong => hlength.trans (if_pos hlong),
        fun hfits => hlength.trans (if_neg (Nat.not_lt.mpr hfits))⟩
    · exact hsend.trans (if_neg (not_or.mpr ⟨ne_true_of_eq_false ho, Nat.ne_of_gt hlen⟩))

end Sys2Proof.Machine

/-! # What a response frame writes (spec/42_frame_parse.md R215 to R217, R220 to R240)

A frame that decodes is a commit: its slots, the actuator's counter, the `Decoded` event. Which slots a payload
may carry depends on the function code alone (`decodePayload_slotAllowed`), and a slot that is not of the
actuator's type writes nothing; O33 and O34 combine the two. -/

namespace Sys2Proof

/-- Two changes of one element of a list are one change. -/
theorem modifyAt_modifyAt {α : Type} (l : List α) (i : Nat) (f g : α → α) :
    modifyAt (modifyAt l i f) i g = modifyAt l i (fun x => g (f x)) := by
  induction l generalizing i with
  | nil => rfl
  | cons a r ih =>
    cases i with
    | zero => rfl
    | succ i => exact congrArg (a :: ·) (ih i)

/-! ## The slots of a decoded payload -/

theorem tcForcePayload_isForce {ax : Axis} {p : List Byte} {ws : List SlotWrite}
    (h : tcForcePayload ax p = some ws) :
    (ax = .single ∧ ∃ v, ws = [.primary v]) ∨ (ax = .dual ∧ ∃ v w, ws = [.primary v, .secondary w]) := by
  unfold tcForcePayload at h
  cases ax <;> dsimp only at h <;> split at h <;> cases h
  · exact .inl ⟨rfl, _, rfl⟩
  · exact .inr ⟨rfl, _, _, rfl⟩

theorem tcDecodePayload_slotAllowed {t : ActType} {f : FnCode} {ax : Axis} {p : List Byte}
    {ws : List SlotWrite} (h : tcDecodePayload t f ax p = some ws) : ∀ w, w ∈ ws → slotAllowed f w = true := by
  unfold tcDecodePayload at h
  split at h
  · rcases tcForcePayload_isForce h with ⟨_, v, rfl⟩ | ⟨_, v, w, rfl⟩ <;> simp [slotAllowed]
  · rcases tcForcePayload_isForce h with ⟨_, v, rfl⟩ | ⟨_, v, w, rfl⟩ <;> simp [slotAllowed]
  · split at h <;> cases h
    simp [slotAllowed]
  · split at h <;> cases h
    simp [slotAllowed]
  · cases h
    simp

/-- The force responses of a force actuator carry one cylinder force, or two where the address is dual (R227,
R228). -/
theorem decodePayload_force {k : TableSet} {f : FnCode} {ax : Axis} {p : List Byte} {ws : List SlotWrite}
    (hf : f = .forceDemand ∨ f = .pneumaticForceStatus)
    (h : decodePayload k .forceActuator f ax p = some ws) :
    (ax = .single ∧ ∃ v, ws = [.primary v]) ∨ (ax = .dual ∧ ∃ v w, ws = [.primary v, .secondary w]) := by
  have htc (h : tcDecodePayload .forceActuator f ax p = some ws) : tcForcePayload ax p = some ws := by
    rcases hf with rfl | rfl <;> exact h
  cases k with
  | tc => exact tcForcePayload_isForce (htc h)
  | tcHigh => exact tcForcePayload_isForce (htc h)
  | openSet n =>
    rw [decodePayload] at h
    split at h
    · rw [if_pos ⟨rfl, hf⟩] at h
      cases ax <;> cases h
      · exact .inl ⟨rfl, _, rfl⟩
      · exact .inr ⟨rfl, _, _, rfl⟩
    · cases h

/-- A decoded payload holds only the slots its function code may write (R220 to R239). -/
theorem decodePayload_slotAllowed {k : TableSet} {t : ActType} {f : FnCode} {ax : Axis} {p : List Byte}
    {ws : List SlotWrite} (h : decodePayload k t f ax p = some ws) : ∀ w, w ∈ ws → slotAllowed f w = true := by
  cases k with
  | tc => exact tcDecodePayload_slotAllowed h
  | tcHigh => exact tcDecodePayload_slotAllowed h
  | openSet n =>
    by_cases hforce : t = .forceActuator ∧ (f = .forceDemand ∨ f = .pneumaticForceStatus)
    · obtain ⟨rfl, hf⟩ := hforce
      have hshape := decodePayload_force hf h
      rcases hf with rfl | rfl <;> rcases hshape with ⟨_, v, rfl⟩ | ⟨_, v, w, rfl⟩ <;> simp [slotAllowed]
    · rw [decodePayload] at h
      split at h
      · cases h
        exact fun w hw => (List.mem_filter.mp hw).2
      · cases h

/-- Whether a slot is a register of an actuator's type (R215). -/
def slotBelongs : ActType → SlotWrite → Bool
  | .forceActuator, .primary _ | .forceActuator, .secondary _ | .hardpoint, .hpForce _ => true
  | _, _ => false

/-- The functions that write a register of a type other than a counter (R224, R227, R228). -/
def writesRegisterOf (f : FnCode) : ActType → Bool
  | .forceActuator => f == .forceDemand || f == .pneumaticForceStatus
  | .hardpoint => f == .electromechanicalForceAndStatus
  | _ => false

theorem writesRegisterOf_force {f : FnCode} (hf : f = .forceDemand ∨ f = .pneumaticForceStatus) {t : ActType}
    (ht : t ≠ .forceActuator) : writesRegisterOf f t = false := by
  cases t with
  | forceActuator => exact absurd rfl ht
  | hardpoint => rcases hf with rfl | rfl <;> rfl
  | unknown | hardpointMonitor => rfl

theorem writesRegisterOf_electromechanical {t : ActType} (ht : t ≠ .hardpoint) :
    writesRegisterOf .electromechanicalForceAndStatus t = false := by
  cases t with
  | hardpoint => exact absurd rfl ht
  | unknown | forceActuator | hardpointMonitor => rfl

theorem slotBelongs_of_slotAllowed {f : FnCode} {t : ActType} {w : SlotWrite} (hf : writesRegisterOf f t = false)
    (hw : slotAllowed f w = true) : slotBelongs t w = false := by
  cases t <;> cases w <;> simp_all [slotBelongs, slotAllowed, writesRegisterOf]

end Sys2Proof

namespace Sys2Proof.Machine

/-! ## The writes of an update (R215) -/

theorem writeSlot_of_not_belongs {t : ActType} {w : SlotWrite} (h : slotBelongs t w = false) (u : FrameUnit)
    (i : Nat) : u.writeSlot t i w = u := by
  unfold FrameUnit.writeSlot
  split
  · cases h
  · cases h
  · cases h
  · rfl

theorem writesForce_of_not_belongs {t : ActType} {ws : List SlotWrite}
    (h : ∀ w, w ∈ ws → slotBelongs t w = false) : writesForce t ws = false := by
  rw [Bool.eq_false_iff]
  intro hf
  obtain rfl := type_of_writesForce hf
  obtain ⟨w, hw, hforce⟩ := List.any_eq_true.mp hf
  have hnot := h w hw
  cases w <;> simp_all [slotBelongs]

/-- An update none of whose slots is of the actuator's type writes nothing. -/
theorem writeUpdate_of_not_belongs {e : IlcEntry} {ws : List SlotWrite}
    (h : ∀ w, w ∈ ws → slotBelongs e.type w = false) (u : FrameUnit) (c : Cfg) : u.writeUpdate c e ws = u := by
  unfold FrameUnit.writeUpdate
  split
  · rfl
  · rename_i i _
    rw [writesForce_of_not_belongs h, if_neg Bool.false_ne_true]
    exact List.foldlRecOn (motive := (· = u)) ws _ rfl
      fun v hv w hw => (writeSlot_of_not_belongs (h w hw) v i).trans hv

/-- The forces of the hardpoints after the slots of one hardpoint's update (R224). -/
def hpForces (h : Hp) (ws : List SlotWrite) (q : PerHp F32) : PerHp F32 :=
  ws.foldl (fun q w => match w with
    | .hpForce v => q.set h v
    | _ => q) q

theorem writeSlots_hardpoint {i : Nat} {h : Hp} (hi : Hp.ofIndex i = some h) (ws : List SlotWrite)
    (u : FrameUnit) :
    ws.foldl (fun v w => v.writeSlot .hardpoint i w) u = { u with hps := hpForces h ws u.hps } := by
  induction ws generalizing u with
  | nil => rfl
  | cons w ws ih =>
    rw [List.foldl_cons, ih]
    cases w <;> simp only [FrameUnit.writeSlot, hi] <;> rfl

theorem writeSlots_noHardpoint {i : Nat} (hi : Hp.ofIndex i = none) (ws : List SlotWrite) (u : FrameUnit) :
    ws.foldl (fun v w => v.writeSlot .hardpoint i w) u = u := by
  refine List.foldlRecOn (motive := (· = u)) ws _ rfl fun v hv w _ => ?_
  cases w <;> simp only [FrameUnit.writeSlot, hi] <;> exact hv

/-! ## A decoded response -/

theorem bumpExpect_neg_one (s : State) (e : IlcEntry) :
    s.bumpExpect e (-1) = { s with frame := s.frame.modifyExpect e.type e.dataIndex (fun v => v - 1) } := by
  have hsub : (fun v : I32 => v - 1) = fun v => v + (-1) := funext fun v => BitVec.sub_eq_add_neg ..
  rw [hsub]
  rfl

/-- The state after a decoded response of an actuator: its update, its counter one down, the event (R215,
R216). -/
theorem commit_eq (s : State) (sub a g : Byte) (e : IlcEntry) (ws : List SlotWrite) (ts : U64) :
    s.commit sub a g e ws ts = { s with
      frame := (s.frame.writeUpdate s.cfg e ws).modifyExpect e.type e.dataIndex (fun v => v - 1)
      log := s.log ++ [.decoded sub a g ws ts] } := by
  rw [State.commit, bumpExpect_neg_one]
  rfl

theorem lookup_number {s : State} {n : Subnet} {a : Byte}
    (ht : (mapGet (s.frame.ilcMap.get n) a.toNat).type ≠ .unknown) :
    s.lookup n.number a = .found (mapGet (s.frame.ilcMap.get n) a.toNat) := by
  rw [State.lookup, Subnet.ofByte_number]
  exact if_neg ht

/-- The instruction of a function code's response runs the frame with that code. -/
theorem exec_response {sub a : Byte} {p : List Byte} {ts : U64} {r : Instr × FnCode}
    (hr : r ∈ allResponses sub a p ts) (s : State) :
    exec r.1 s = runResponse r.2.code sub a p ts s := by
  simp only [allResponses, forceResponses, plainResponses, List.mem_cons, List.mem_append, List.not_mem_nil,
    or_false] at hr
  rcases hr with rfl | (rfl | rfl) | rfl | rfl | rfl | rfl | rfl | rfl | rfl | rfl | rfl | rfl | rfl | rfl |
    rfl | rfl | rfl | rfl | rfl <;> rfl

section
variable {s : State} {n : Subnet} {a : Byte} {p : List Byte} {ts : U64} {ws : List SlotWrite} {e : IlcEntry}
  {r : Instr × FnCode}

/-- A response that decodes is a commit of what it decodes to (R212). -/
theorem exec_decoded (hs : s.ready = true) (he : mapGet (s.frame.ilcMap.get n) a.toNat = e)
    (ht : e.type ≠ .unknown) (hr : r ∈ allResponses n.number a p ts)
    (hrec : ⟨e.type, r.2⟩ ∈ s.cfg.frame.recognised)
    (hdec : decodePayload s.cfg.tables e.type r.2 (axisOf a) p = some ws) :
    exec r.1 s = .next (State.respond { s with
      frame := (s.frame.writeUpdate s.cfg e ws).modifyExpect e.type e.dataIndex (fun v => v - 1)
      log := s.log ++ [.decoded n.number a r.2.code ws ts] } .ok (.frames 1)) := by
  subst he
  have hcode : ¬ 128 ≤ r.2.code.toNat := Nat.not_le.mpr (FnCode.code_lt r.2)
  have hbody : s.frameBody n.number a r.2.code p ts =
      (s.commit n.number a r.2.code (mapGet (s.frame.ilcMap.get n) a.toNat) ws ts, 1) := by
    simp only [State.frameBody, lookup_number ht, if_neg hcode, State.functionFrame, recognised_code hrec, hdec]
  rw [exec_response hr, runResponse, whenReady_ready hs, hbody, commit_eq, State.done_eq]

/-- A response that decodes to no slot of the actuator's type leaves the counter and the event. -/
theorem exec_decoded_of_not_belongs (hs : s.ready = true) (he : mapGet (s.frame.ilcMap.get n) a.toNat = e)
    (ht : e.type ≠ .unknown) (hr : r ∈ allResponses n.number a p ts)
    (hrec : ⟨e.type, r.2⟩ ∈ s.cfg.frame.recognised)
    (hdec : decodePayload s.cfg.tables e.type r.2 (axisOf a) p = some ws)
    (hf : writesRegisterOf r.2 e.type = false) :
    exec r.1 s = .next (State.respond { s with
      frame := s.frame.modifyExpect e.type e.dataIndex (fun v => v - 1)
      log := s.log ++ [.decoded n.number a r.2.code ws ts] } .ok (.frames 1)) := by
  have hslots := fun w hw => slotBelongs_of_slotAllowed hf (decodePayload_slotAllowed hdec w hw)
  rw [exec_decoded hs he ht hr hrec hdec, writeUpdate_of_not_belongs hslots]

end

theorem plainResponse_mem {sub a : Byte} {p : List Byte} {ts : U64} {r : Instr × FnCode}
    (hr : r ∈ plainResponses sub a p ts) : r ∈ allResponses sub a p ts :=
  List.mem_cons_of_mem _ (List.mem_append_right _ hr)

theorem forceResponse_mem {sub a : Byte} {p : List Byte} {ts : U64} {r : Instr × FnCode}
    (hr : r ∈ forceResponses sub a p ts) : r ∈ allResponses sub a p ts :=
  List.mem_cons_of_mem _ (List.mem_append_left _ hr)

theorem plainResponse_writesRegisterOf {sub a : Byte} {p : List Byte} {ts : U64} {r : Instr × FnCode}
    (hr : r ∈ plainResponses sub a p ts) (t : ActType) : writesRegisterOf r.2 t = false := by
  have hall : (plainResponses sub a p ts).all (fun q => !writesRegisterOf q.2 t) = true := by cases t <;> rfl
  exact Bool.not_eq_true' _ ▸ List.all_eq_true.mp hall r hr

theorem forceResponse_code {sub a : Byte} {p : List Byte} {ts : U64} {r : Instr × FnCode}
    (hr : r ∈ forceResponses sub a p ts) : r.2 = .forceDemand ∨ r.2 = .pneumaticForceStatus := by
  simp only [forceResponses, List.mem_cons, List.not_mem_nil, or_false] at hr
  rcases hr with rfl | rfl
  · exact .inl rfl
  · exact .inr rfl

/-! ## Forces (R217, R224, R227, R228) -/

/-- The force state of an actuator after a response with one or two cylinder forces, and its derived forces
(R217). -/
def withCylinders (c : Cfg) (i : Nat) (v : F32) (w : Option F32) (x : ActuatorForce) : ActuatorForce :=
  derived c i { x with primary := v, secondary := w.getD x.secondary }

section
variable {e : IlcEntry} {i : Nat} (ht : e.type = .forceActuator) (hi : indexOf e.dataIndex = some i)
include ht hi

theorem writeUpdate_primary (u : FrameUnit) (c : Cfg) (v : F32) :
    u.writeUpdate c e [.primary v] = { u with afs := modifyAt u.afs i (withCylinders c i v none) } := by
  rw [FrameUnit.writeUpdate, hi, ht]
  exact congrArg (fun l => { u with afs := l }) (modifyAt_modifyAt ..)

theorem writeUpdate_secondary (u : FrameUnit) (c : Cfg) (v w : F32) :
    u.writeUpdate c e [.primary v, .secondary w] =
      { u with afs := modifyAt u.afs i (withCylinders c i v (some w)) } := by
  rw [FrameUnit.writeUpdate, hi, ht]
  refine congrArg (fun l => { u with afs := l }) ?_
  exact (congrArg (modifyAt · i _) (modifyAt_modifyAt ..)).trans (modifyAt_modifyAt ..)

/-- The counter of a force actuator and its force state are different registers. -/
theorem modifyExpect_afs (u : FrameUnit) (l : List ActuatorForce) (f : I32 → I32) :
    FrameUnit.modifyExpect { u with afs := l } e.type e.dataIndex f =
      { u.modifyExpect e.type e.dataIndex f with afs := l } := by
  rw [FrameUnit.modifyExpect, FrameUnit.modifyExpect, hi, ht]
  rfl

end

theorem modifyExpect_hps {e : IlcEntry} (ht : e.type = .hardpoint) (u : FrameUnit) (q : PerHp F32)
    (f : I32 → I32) : FrameUnit.modifyExpect { u with hps := q } e.type e.dataIndex f =
      { u.modifyExpect e.type e.dataIndex f with hps := q } := by
  unfold FrameUnit.modifyExpect FrameUnit.updateExpect
  rw [ht]
  cases indexOf e.dataIndex with
  | none => rfl
  | some i => cases hh : Hp.ofIndex i <;> simp only [hh]

/-- The update of a hardpoint writes its force (R224). -/
theorem writeUpdate_hardpoint {e : IlcEntry} {i : Nat} {h : Hp} (ht : e.type = .hardpoint)
    (hi : indexOf e.dataIndex = some i) (hh : Hp.ofIndex i = some h) (u : FrameUnit) (c : Cfg)
    (ws : List SlotWrite) : u.writeUpdate c e ws = { u with hps := hpForces h ws u.hps } := by
  rw [FrameUnit.writeUpdate, hi, ht]
  exact writeSlots_hardpoint hh ws u

theorem writeUpdate_noHardpoint {e : IlcEntry} {i : Nat} (ht : e.type = .hardpoint)
    (hi : indexOf e.dataIndex = some i) (hh : Hp.ofIndex i = none) (u : FrameUnit) (c : Cfg)
    (ws : List SlotWrite) : u.writeUpdate c e ws = u := by
  rw [FrameUnit.writeUpdate, hi, ht]
  exact writeSlots_noHardpoint hh ws u

/-- A negative index names no element and no counter (R215, R216). -/
theorem update_noIndex {e : IlcEntry} (hi : indexOf e.dataIndex = none) (u : FrameUnit) (c : Cfg)
    (ws : List SlotWrite) (f : I32 → I32) :
    (u.writeUpdate c e ws).modifyExpect e.type e.dataIndex f = u := by
  rw [FrameUnit.modifyExpect, FrameUnit.writeUpdate, hi]

/-! ## Exception responses (R240) -/

theorem exceptionCause_eq (x : Byte) : exceptionCause x =
    if x.toNat = 1 then .illegalFunction else if x.toNat = 3 then .illegalDataValue else .unknownProblem := by
  have hbyte (k : Byte) : x = k ↔ x.toNat = k.toNat := BitVec.toNat_eq
  exact if_congr (hbyte 1) rfl (if_congr (hbyte 3) rfl rfl)

theorem exec_exception {s : State} {n : Subnet} {a : Byte} (hs : s.ready = true)
    (ht : (mapGet (s.frame.ilcMap.get n) a.toNat).type ≠ .unknown) (f : BitVec 7) (p : List Byte) (ts : U64) :
    exec (.exceptionResponse n.number a f p ts) s =
      .next ((s.exceptionFrame (mapGet (s.frame.ilcMap.get n) a.toNat) p ts).respond .ok (.frames 0)) := by
  obtain ⟨hbit, _⟩ := exceptionByte_parts f
  have hexec : exec (.exceptionResponse n.number a f p ts) s =
      runResponse (exceptionByte f) n.number a p ts s := rfl
  rw [hexec, runResponse, whenReady_ready hs, State.frameBody, lookup_number ht]
  dsimp only
  rw [if_pos hbit, State.done_eq]

theorem exceptionFrame_code (s : State) (e : IlcEntry) (x : Byte) (ts : U64) :
    s.exceptionFrame e [x] ts =
      if s.cfg.frame.excDecrements then (s.emit (exceptionCause x) e.actuatorId ts).bumpExpect e (-1)
      else s.emit (exceptionCause x) e.actuatorId ts := rfl

theorem exceptionFrame_length {p : List Byte} (hp : p.length ≠ 1) (s : State) (e : IlcEntry) (ts : U64) :
    s.exceptionFrame e p ts = s.emit .invalidLength e.actuatorId ts := by
  match p with
  | [] | _ :: _ :: _ => rfl
  | [_] => exact absurd rfl hp

end Sys2Proof.Machine

/-! ## What R215 to R240 ask

In a namespace of their own: `plainResponses` and `forceResponses` are the lists of the frames. -/

namespace Sys2Proof.Machine.Responses

/-- Settles O33: none of the seventeen codes has a slot that is a register. -/
theorem plainResponses : Obligations.PlainResponses := by
  unfold Obligations.PlainResponses
  intro s n a p ts ws hs e ht r hr hrec hdec
  exact exec_decoded_of_not_belongs hs rfl ht (plainResponse_mem hr) hrec hdec
    (plainResponse_writesRegisterOf hr e.type)

/-- Settles O34: the shape of the payload by function code, type and axis class gives the slots, and each slot
its register. -/
theorem forceResponses : Obligations.ForceResponses := by
  unfold Obligations.ForceResponses
  intro s n a p ts ws hs e u ht
  refine ⟨fun hi r hr hrec hdec => ?_, fun i hi => ⟨fun r hr hrec hdec => ?_, fun hrec hdec => ?_⟩⟩
  · have hmem : r ∈ allResponses n.number a p ts := by
      rcases List.mem_cons.mp hr with rfl | hr
      · exact List.mem_cons_self
      · exact forceResponse_mem hr
    rw [exec_decoded hs rfl ht hmem hrec hdec, update_noIndex hi]
  · have hrun := exec_decoded hs rfl ht (forceResponse_mem hr) hrec hdec
    have hcode := forceResponse_code hr
    refine ⟨fun hfa hsingle => ?_, fun hfa hdual => ?_, fun hfa => ?_⟩
    · have hax : axisOf a = .single := if_pos hsingle
      rw [hfa, hax] at hdec
      rcases decodePayload_force hcode hdec with ⟨_, v, rfl⟩ | ⟨hd, _⟩
      · rw [writeUpdate_primary hfa hi, modifyExpect_afs hfa hi] at hrun
        exact ⟨v, rfl, hrun⟩
      · cases hd
    · have hax : axisOf a = .dual := if_neg (Nat.not_le.mpr hdual)
      rw [hfa, hax] at hdec
      rcases decodePayload_force hcode hdec with ⟨hd, _⟩ | ⟨_, v, w, rfl⟩
      · cases hd
      · rw [writeUpdate_secondary hfa hi, modifyExpect_afs hfa hi] at hrun
        exact ⟨v, w, rfl, hrun⟩
    · exact exec_decoded_of_not_belongs hs rfl ht (forceResponse_mem hr) hrec hdec
        (writesRegisterOf_force hcode hfa)
  · have hmem : (Instr.electromechanicalForceAndStatus n.number a p ts, FnCode.electromechanicalForceAndStatus) ∈
        allResponses n.number a p ts := List.mem_cons_self
    have hrun := exec_decoded hs rfl ht hmem hrec hdec
    refine ⟨fun h hhp hh => ?_, fun hno => ?_⟩
    · rw [writeUpdate_hardpoint hhp hi hh, modifyExpect_hps hhp] at hrun
      exact hrun
    · by_cases hhp : e.type = .hardpoint
      · rw [writeUpdate_noHardpoint hhp hi (hno.resolve_left (not_not.mpr hhp))] at hrun
        exact hrun
      · exact exec_decoded_of_not_belongs hs rfl ht hmem hrec hdec (writesRegisterOf_electromechanical hhp)

/-- Settles O35: the exception frame is a warning by its code, with the counter where the configuration says
so. -/
theorem exceptionResponses : Obligations.ExceptionResponses := by
  unfold Obligations.ExceptionResponses
  intro s n a f ts hs e ht
  refine ⟨fun x => ?_, fun p hp => ?_⟩
  · have hrun := exec_exception hs ht f [x] ts
    rw [exceptionFrame_code, exceptionCause_eq] at hrun
    refine ⟨fun hkeep => ?_, fun hdec => ?_⟩
    · rw [hkeep, if_neg Bool.false_ne_true] at hrun
      exact hrun
    · rw [hdec, if_pos rfl, bumpExpect_neg_one] at hrun
      exact hrun
  · rw [exec_exception hs ht, exceptionFrame_length hp]

end Sys2Proof.Machine.Responses

/-! # `MAP_BUILD` (spec/42_frame_parse.md R210)

The rows are placed one by one; `MapOf` says what a map is after some of them. A further row is placed exactly
if the table is still in order with it (`placeRow_eq_none`, `placeRow_of_tableOk`). -/

namespace Sys2Proof.Machine

/-! ## The actuator table -/

/-- What R210 asks of a row by itself. -/
def rowInRange (r : ActuatorRow) : Prop :=
  1 ≤ r.subnet.toNat ∧ r.subnet.toNat ≤ 5 ∧ r.address.toNat ≤ 254 ∧ r.entry.type ≠ .unknown

theorem tableOk_nil : tableOk [] := ⟨by simp, List.nodup_nil, List.nodup_nil⟩

theorem tableOk_cons (r : ActuatorRow) (l : List ActuatorRow) :
    tableOk (r :: l) ↔ rowInRange r ∧ (∀ q, q ∈ l → ¬ (q.subnet = r.subnet ∧ q.address = r.address)) ∧
      r.entry.actuatorId ∉ l.map (fun q => q.entry.actuatorId) ∧ tableOk l := by
  simp only [tableOk, rowInRange, List.forall_mem_cons, List.map_cons, List.nodup_cons, List.mem_map,
    Prod.mk.injEq, not_exists, not_and]
  tauto

theorem tableOk_of_append {l k : List ActuatorRow} (h : tableOk (l ++ k)) : tableOk k := by
  induction l with
  | nil => exact h
  | cons r l ih =>
    obtain ⟨_, _, _, hl⟩ := (tableOk_cons r (l ++ k)).mp h
    exact ih hl

theorem tableOk_reverse (l : List ActuatorRow) : tableOk l.reverse ↔ tableOk l := by
  simp only [tableOk, List.mem_reverse, List.map_reverse, List.nodup_reverse]

/-! ## A map and the rows it holds -/

/-- The map `m` holds the rows `l`, which are in order, and nothing else. -/
structure MapOf (m : PerSubnet (List MapCell)) (l : List ActuatorRow) : Prop where
  ok : tableOk l
  wf : ∀ n, mapWf (m.get n) = true
  row : ∀ r, r ∈ l → ∀ n : Subnet, r.subnet = n.number → mapGet (m.get n) r.address.toNat = r.entry
  other : ∀ (n : Subnet) (a : Byte), (∀ r, r ∈ l → ¬ (r.subnet = n.number ∧ r.address = a)) →
    mapGet (m.get n) a.toNat = unmapped

theorem mapOf_nil : MapOf (PerSubnet.pure []) [] where
  ok := tableOk_nil
  wf n := by rw [PerSubnet.get_pure]; rfl
  row r hr := by cases hr
  other n a _ := by rw [PerSubnet.get_pure]; rfl

section
variable {m : PerSubnet (List MapCell)} {l : List ActuatorRow} {r : ActuatorRow}

/-- An address is free exactly if no row owns it. -/
theorem MapOf.free_iff (h : MapOf m l) (n : Subnet) (a : Byte) :
    (mapGet (m.get n) a.toNat).type = .unknown ↔ ∀ q, q ∈ l → ¬ (q.subnet = n.number ∧ q.address = a) := by
  constructor
  · rintro hfree q hq ⟨hsub, rfl⟩
    obtain ⟨hrange, _⟩ := h.ok
    obtain ⟨_, _, _, htype⟩ := hrange q hq
    exact htype (h.row q hq n hsub ▸ hfree)
  · intro hnone
    rw [h.other n a hnone]
    rfl

/-- A row that breaks the order of the table is refused. -/
theorem MapOf.placeRow_eq_none (h : MapOf m l) (hr : ¬ tableOk (r :: l)) :
    placeRow m (l.map (fun q => q.entry.actuatorId)) r = none := by
  by_contra hsome
  obtain ⟨m', hm'⟩ := Option.ne_none_iff_exists'.mp hsome
  obtain ⟨n, hn, haddr, hfree, hid, htype, _⟩ := placeRow_eq_some hm'
  have hsub : 1 ≤ r.subnet.toNat ∧ r.subnet.toNat ≤ 5 := by
    by_contra hout
    rw [(Subnet.ofByte_eq_none_iff _).mpr hout] at hn
    cases hn
  have hnone := (h.free_iff n r.address).mp hfree
  rw [← Subnet.ofByte_eq_some hn] at hnone
  exact hr ((tableOk_cons r l).mpr ⟨⟨hsub.1, hsub.2, haddr, htype⟩, hnone, hid, h.ok⟩)

/-- A row that keeps the order of the table is placed at its address. -/
theorem MapOf.placeRow_of_tableOk (h : MapOf m l) (hr : tableOk (r :: l)) :
    ∃ n : Subnet, r.subnet = n.number ∧
      placeRow m (l.map (fun q => q.entry.actuatorId)) r =
        some (m.set n (mapInsert (m.get n) r.address.toNat r.entry)) := by
  obtain ⟨⟨hlow, hhigh, haddr, htype⟩, hnone, hid, _⟩ := (tableOk_cons r l).mp hr
  obtain ⟨n, hn⟩ : ∃ n, Subnet.ofByte r.subnet = some n :=
    Option.ne_none_iff_exists'.mp fun hno => (Subnet.ofByte_eq_none_iff _).mp hno ⟨hlow, hhigh⟩
  have hsub := Subnet.ofByte_eq_some hn
  have hfree := (h.free_iff n r.address).mpr (hsub ▸ hnone)
  refine ⟨n, hsub, ?_⟩
  rw [placeRow, hn]
  dsimp only
  rw [if_neg, mapSet, if_neg htype]
  rintro (hbad | hbad | hbad | hbad)
  · omega
  · exact hbad hfree
  · exact hid (List.contains_iff_mem.mp hbad)
  · exact htype hbad

/-- The map after one more row. -/
theorem MapOf.insert (h : MapOf m l) (hr : tableOk (r :: l)) {n : Subnet} (hn : r.subnet = n.number) :
    MapOf (m.set n (mapInsert (m.get n) r.address.toNat r.entry)) (r :: l) := by
  obtain ⟨⟨_, _, _, htype⟩, hnone, _, _⟩ := (tableOk_cons r l).mp hr
  have hget (k : Subnet) (a : Byte) :
      mapGet ((m.set n (mapInsert (m.get n) r.address.toNat r.entry)).get k) a.toNat =
        if r.subnet = k.number ∧ r.address = a then r.entry else mapGet (m.get k) a.toNat := by
    rw [PerSubnet.get_set, hn]
    by_cases hk : n = k
    · subst hk
      rw [if_pos rfl, mapGet_mapInsert _ _ _ (h.wf n)]
      exact if_congr (by rw [← BitVec.toNat_eq]; exact (and_iff_right rfl).symm) rfl rfl
    · have hnum : n.number ≠ k.number := fun hnk => hk (by simpa using congrArg Subnet.ofByte hnk)
      rw [if_neg hk, if_neg fun hboth => hnum hboth.1]
  refine ⟨hr, ?_, ?_, ?_⟩
  · exact PerSubnet.forall_get_set (p := fun l => mapWf l = true) n h.wf (mapWf_mapInsert _ (h.wf n) htype)
  · intro q hq k hk
    rw [hget]
    rcases List.mem_cons.mp hq with rfl | hq
    · exact if_pos ⟨hk, rfl⟩
    · rw [if_neg fun hboth => hnone q hq ⟨hk.trans hboth.1.symm, hboth.2.symm⟩]
      exact h.row q hq k hk
  · intro k a hk
    rw [hget, if_neg (hk r List.mem_cons_self)]
    exact h.other k a fun q hq => hk q (List.mem_cons_of_mem _ hq)

/-- The rows placed in table order, after the rows `l`: refused if the whole table is not in order, else the
map of all of them. -/
theorem MapOf.placeRows (h : MapOf m l) (rows : List ActuatorRow) :
    (¬ tableOk (rows.reverse ++ l) → placeRows m (l.map (fun q => q.entry.actuatorId)) rows = none) ∧
      (tableOk (rows.reverse ++ l) → ∃ m', placeRows m (l.map (fun q => q.entry.actuatorId)) rows = some m' ∧
        MapOf m' (rows.reverse ++ l)) := by
  induction rows generalizing m l with
  | nil => exact ⟨fun hbad => absurd h.ok hbad, fun _ => ⟨m, rfl, h⟩⟩
  | cons r rows ih =>
    rw [List.reverse_cons, List.append_assoc, List.singleton_append]
    by_cases hr : tableOk (r :: l)
    · obtain ⟨n, hn, hplace⟩ := h.placeRow_of_tableOk hr
      rw [Machine.placeRows, hplace]
      exact ih (h.insert hr hn)
    · rw [Machine.placeRows, h.placeRow_eq_none hr]
      exact ⟨fun _ => rfl, fun hall => absurd (tableOk_of_append hall) hr⟩

end

/-! ## The block at rest (R95, R210) -/

theorem anyOpen_eq_false_iff (s : State) : anyOpen s = false ↔ ∀ n, (s.frame.tx.get n).opened = false := by
  rw [anyOpen, List.any_eq_false]
  constructor
  · intro h n
    exact Bool.eq_false_iff.mpr (h _ (by cases n <;> simp [PerSubnet.toList, PerSubnet.get]))
  · intro h b hb
    simp only [PerSubnet.toList, List.mem_cons, List.not_mem_nil, or_false] at hb
    rcases hb with rfl | rfl | rfl | rfl | rfl
    · exact Bool.eq_false_iff.mp (h .s1)
    · exact Bool.eq_false_iff.mp (h .s2)
    · exact Bool.eq_false_iff.mp (h .s3)
    · exact Bool.eq_false_iff.mp (h .s4)
    · exact Bool.eq_false_iff.mp (h .s5)

theorem configIdle_iff (s : State) : s.configIdle = true ↔
    (∀ n, (s.frame.tx.get n).opened = false) ∧ (s.raise.rstate = .idle ∨ s.raise.rstate = .complete) ∧
      s.safety.err.code = .noFault := by
  rw [State.configIdle, Bool.and_eq_true, Bool.and_eq_true, Bool.not_eq_true', anyOpen_eq_false_iff,
    Bool.or_eq_true, beq_iff_eq, beq_iff_eq, beq_iff_eq, and_assoc]

theorem exec_mapBuild_busy {s : State} (h : s.cfgLoaded = false ∨ s.configIdle = false) :
    exec .mapBuild s = .next (s.respond .badState .none) := by
  have hexec : exec .mapBuild s = execMapBuild s := rfl
  rw [hexec, execMapBuild, if_pos (by simpa using h), State.refuse_eq]

theorem exec_mapBuild_refused {s : State} (hl : s.cfgLoaded = true) (hi : s.configIdle = true)
    (hm : placeRows (PerSubnet.pure []) [] s.cfg.plant.actuatorTable = none) :
    exec .mapBuild s = .next (s.respond .badConfig .none) := by
  have hexec : exec .mapBuild s = execMapBuild s := rfl
  rw [hexec, execMapBuild, hl, hi, if_neg (by decide), hm, State.refuse_eq]

theorem exec_mapBuild_placed {s : State} {m : PerSubnet (List MapCell)} (hl : s.cfgLoaded = true)
    (hi : s.configIdle = true)
    (hm : placeRows (PerSubnet.pure []) [] s.cfg.plant.actuatorTable = some m) :
    exec .mapBuild s = .next ((s.setMap m).respond .ok .none) := by
  have hexec : exec .mapBuild s = execMapBuild s := rfl
  rw [hexec, execMapBuild, hl, hi, if_neg (by decide), hm]
  rfl

/-- Settles O27: the rows of the table placed in the empty map. -/
theorem mapBuild : Obligations.MapBuild := by
  unfold Obligations.MapBuild
  refine fun s => ⟨fun hbusy => ?_, fun hl hclosed hrest herr => ?_⟩
  · refine exec_mapBuild_busy (hbusy.imp_right fun hbusy => ?_)
    rw [Bool.eq_false_iff, ne_eq, configIdle_iff]
    rintro ⟨hclosed, hrest, herr⟩
    rcases hbusy with ⟨n, hopen⟩ | hrun | hpaused | hfault
    · rw [hclosed n] at hopen
      cases hopen
    · rw [hrun] at hrest
      simp at hrest
    · rw [hpaused] at hrest
      simp at hrest
    · exact hfault herr
  · have hidle := (configIdle_iff s).mpr ⟨hclosed, hrest, herr⟩
    obtain ⟨hbad, hgood⟩ := mapOf_nil.placeRows s.cfg.plant.actuatorTable
    rw [List.append_nil, tableOk_reverse, List.map_nil] at hbad hgood
    refine ⟨fun htable => exec_mapBuild_refused hl hidle (hbad htable), fun htable => ?_⟩
    obtain ⟨m, hm, hof⟩ := hgood htable
    exact ⟨m, exec_mapBuild_placed hl hidle hm, fun r hr => hof.row r (List.mem_reverse.mpr hr),
      fun n a hfree => hof.other n a fun r hr => hfree r (List.mem_reverse.mp hr)⟩

end Sys2Proof.Machine

/-! # `RECONCILE` (spec/42_frame_parse.md R250)

Zeroing a counter that is zero changes nothing, so every counter is zeroed and the late ones are reported; the
counters are looked at once each, so what one step zeroes no later step looks at. -/

namespace Sys2Proof

theorem modifyAt_const_getD {α : Type} (l : List α) (i j : Nat) (d : α) :
    (modifyAt l i (fun _ => d)).getD j d = if i = j then d else l.getD j d := by
  induction l generalizing i j with
  | nil => simp [modifyAt]
  | cons a r ih =>
    cases i <;> cases j
    · rfl
    · simp [modifyAt]
    · simp [modifyAt]
    · simpa [modifyAt] using ih _ _

theorem modifyAt_const_of_getD {α : Type} {l : List α} {i : Nat} {d : α} (h : l.getD i d = d) :
    modifyAt l i (fun _ => d) = l := by
  induction l generalizing i with
  | nil => rfl
  | cons a r ih =>
    cases i with
    | zero => exact congrArg (· :: r) h.symm
    | succ i => exact congrArg (a :: ·) (ih (by simpa using h))

theorem PerHp.set_get {α : Type} (p : PerHp α) (h : Hp) : p.set h (p.get h) = p := by cases h <;> rfl

theorem Hp.ofIndex_number (h : Hp) : Hp.ofIndex h.number = some h := by cases h <;> rfl

end Sys2Proof

namespace Sys2Proof.Machine

/-! ## Counters zeroed -/

/-- A counter set to zero. -/
def FrameUnit.zeroCounter (u : FrameUnit) (k : ActType × Nat) : FrameUnit :=
  u.updateExpect k.1 k.2 (fun _ => 0)

/-- The counters of a list set to zero. -/
def FrameUnit.zeroCounters (u : FrameUnit) (l : List (ActType × Nat)) : FrameUnit :=
  l.foldl FrameUnit.zeroCounter u

/-- An element of a file of six counters; zero where the index names no hardpoint. -/
def hpCounter (p : PerHp I32) (i : Nat) : I32 := (Hp.ofIndex i).elim 0 p.get

/-- A file of six counters with one of them zero. -/
def zeroHpCounter (p : PerHp I32) (i : Nat) : PerHp I32 := (Hp.ofIndex i).elim p (fun h => p.set h 0)

theorem hpCounter_zeroHpCounter (p : PerHp I32) (i j : Nat) :
    hpCounter (zeroHpCounter p i) j = if i = j then 0 else hpCounter p j := by
  unfold hpCounter zeroHpCounter
  cases hj : Hp.ofIndex j with
  | none => exact (ite_self (0 : I32)).symm
  | some g =>
    cases hi : Hp.ofIndex i with
    | none =>
      have hne : i ≠ j := fun h => by rw [h, hj] at hi; cases hi
      rw [if_neg hne]
      rfl
    | some h =>
      rw [← Hp.number_of_ofIndex hi, ← Hp.number_of_ofIndex hj]
      refine (PerHp.get_set p h g 0).trans (if_congr ⟨congrArg Hp.number, fun hnum => ?_⟩ rfl rfl)
      exact Option.some.inj (by rw [← Hp.ofIndex_number h, hnum, Hp.ofIndex_number])

theorem zeroHpCounter_of_zero {p : PerHp I32} {i : Nat} (h : hpCounter p i = 0) : zeroHpCounter p i = p := by
  unfold hpCounter at h
  unfold zeroHpCounter
  cases hi : Hp.ofIndex i with
  | none => rfl
  | some g =>
    rw [hi] at h
    exact (congrArg (p.set g) h.symm).trans (PerHp.set_get p g)

section
variable (u : FrameUnit)

theorem expect_hardpoint (i : Nat) : u.expect .hardpoint i = hpCounter u.expectHp i := by
  unfold FrameUnit.expect hpCounter
  cases Hp.ofIndex i <;> rfl

theorem expect_hardpointMonitor (i : Nat) : u.expect .hardpointMonitor i = hpCounter u.expectHm i := by
  unfold FrameUnit.expect hpCounter
  cases Hp.ofIndex i <;> rfl

theorem zeroCounter_hardpoint (i : Nat) :
    u.zeroCounter (.hardpoint, i) = { u with expectHp := zeroHpCounter u.expectHp i } := by
  unfold FrameUnit.zeroCounter FrameUnit.updateExpect zeroHpCounter
  cases Hp.ofIndex i <;> rfl

theorem zeroCounter_hardpointMonitor (i : Nat) :
    u.zeroCounter (.hardpointMonitor, i) = { u with expectHm := zeroHpCounter u.expectHm i } := by
  unfold FrameUnit.zeroCounter FrameUnit.updateExpect zeroHpCounter
  cases Hp.ofIndex i <;> rfl

/-- Zeroing writes the counters, and leaves their number. -/
theorem zeroCounter_frame (k : ActType × Nat) : ∃ fa hp hm, fa.length = u.expectFa.length ∧
    u.zeroCounter k = { u with expectFa := fa, expectHp := hp, expectHm := hm } := by
  obtain ⟨t, i⟩ := k
  cases t with
  | unknown => exact ⟨_, _, _, rfl, rfl⟩
  | forceActuator => exact ⟨_, _, _, modifyAt_length .., rfl⟩
  | hardpoint => exact ⟨_, _, _, rfl, zeroCounter_hardpoint u i⟩
  | hardpointMonitor => exact ⟨_, _, _, rfl, zeroCounter_hardpointMonitor u i⟩

/-- A counter read after one was zeroed. -/
theorem expect_zeroCounter (k j : ActType × Nat) :
    (u.zeroCounter k).expect j.1 j.2 = if k = j then 0 else u.expect j.1 j.2 := by
  obtain ⟨t, i⟩ := k
  obtain ⟨t', j⟩ := j
  by_cases ht : t = t'
  · subst ht
    rw [if_congr (Prod.mk.injEq t i t j ▸ and_iff_right rfl) rfl rfl]
    cases t with
    | unknown => exact (ite_self (0 : I32)).symm
    | forceActuator => exact modifyAt_const_getD u.expectFa i j 0
    | hardpoint =>
      rw [zeroCounter_hardpoint, expect_hardpoint, expect_hardpoint, hpCounter_zeroHpCounter]
    | hardpointMonitor =>
      rw [zeroCounter_hardpointMonitor, expect_hardpointMonitor, expect_hardpointMonitor,
        hpCounter_zeroHpCounter]
  · rw [if_neg fun h => ht (congrArg Prod.fst h)]
    cases t with
    | unknown => rfl
    | forceActuator =>
      cases t' with
      | forceActuator => exact absurd rfl ht
      | unknown | hardpoint | hardpointMonitor => rfl
    | hardpoint =>
      rw [zeroCounter_hardpoint]
      cases t' with
      | hardpoint => exact absurd rfl ht
      | unknown | forceActuator | hardpointMonitor => rfl
    | hardpointMonitor =>
      rw [zeroCounter_hardpointMonitor]
      cases t' with
      | hardpointMonitor => exact absurd rfl ht
      | unknown | forceActuator | hardpoint => rfl

/-- A counter that is zero stays as it is. -/
theorem zeroCounter_of_zero {u : FrameUnit} {k : ActType × Nat} (h : u.expect k.1 k.2 = 0) :
    u.zeroCounter k = u := by
  obtain ⟨t, i⟩ := k
  cases t with
  | unknown => rfl
  | forceActuator => exact congrArg (fun l => { u with expectFa := l }) (modifyAt_const_of_getD h)
  | hardpoint =>
    rw [zeroCounter_hardpoint, zeroHpCounter_of_zero ((expect_hardpoint u i).symm.trans h)]
  | hardpointMonitor =>
    rw [zeroCounter_hardpointMonitor, zeroHpCounter_of_zero ((expect_hardpointMonitor u i).symm.trans h)]

/-! ## All counters zeroed -/

theorem zeroCounters_concat (l : List (ActType × Nat)) (k : ActType × Nat) :
    u.zeroCounters (l ++ [k]) = (u.zeroCounters l).zeroCounter k := by
  rw [FrameUnit.zeroCounters, List.foldl_concat, FrameUnit.zeroCounters]

theorem expect_zeroCounters (l : List (ActType × Nat)) (j : ActType × Nat) :
    (u.zeroCounters l).expect j.1 j.2 = if j ∈ l then 0 else u.expect j.1 j.2 := by
  induction l using List.reverseRecOn with
  | nil => rfl
  | append_singleton l k ih =>
    rw [zeroCounters_concat, expect_zeroCounter, ih]
    by_cases hk : k = j
    · rw [if_pos hk, if_pos (List.mem_append_right l (List.mem_singleton.mpr hk.symm))]
    · have hmem : j ∈ l ++ [k] ↔ j ∈ l := by simp [Ne.symm hk]
      rw [if_neg hk, if_congr hmem rfl rfl]

theorem zeroCounters_frame (l : List (ActType × Nat)) : ∃ fa hp hm, fa.length = u.expectFa.length ∧
    u.zeroCounters l = { u with expectFa := fa, expectHp := hp, expectHm := hm } := by
  induction l using List.reverseRecOn with
  | nil => exact ⟨_, _, _, rfl, rfl⟩
  | append_singleton l k ih =>
    obtain ⟨_, _, _, hlen, hl⟩ := ih
    obtain ⟨fa, hp, hm, hlen', hk⟩ := zeroCounter_frame (u.zeroCounters l) k
    rw [zeroCounters_concat, hk, hl]
    exact ⟨fa, hp, hm, by rw [hlen', hl, hlen], rfl⟩

theorem mem_counterList (t : ActType) (i : Nat) : (t, i) ∈ counterList u ↔
    (t = .forceActuator ∧ i < u.expectFa.length) ∨ ((t = .hardpoint ∨ t = .hardpointMonitor) ∧ i < 6) := by
  simp only [counterList, List.mem_append, List.mem_map, List.mem_range, Prod.mk.injEq]
  constructor
  · rintro ((⟨_, hi, rfl, rfl⟩ | ⟨_, hi, rfl, rfl⟩) | ⟨_, hi, rfl, rfl⟩)
    · exact .inl ⟨rfl, hi⟩
    · exact .inr ⟨.inl rfl, hi⟩
    · exact .inr ⟨.inr rfl, hi⟩
  · rintro (⟨rfl, hi⟩ | ⟨rfl | rfl, hi⟩)
    · exact .inl (.inl ⟨i, hi, rfl, rfl⟩)
    · exact .inl (.inr ⟨i, hi, rfl, rfl⟩)
    · exact .inr ⟨i, hi, rfl, rfl⟩

theorem counterList_nodup : (counterList u).Nodup := by
  have hfile (t : ActType) (n : Nat) : ((List.range n).map (fun i => (t, i))).Nodup :=
    List.nodup_range.map fun _ _ h => congrArg Prod.snd h
  have hdisjoint (t t' : ActType) (h : t ≠ t') (n m : Nat) :
      ((List.range n).map (fun i => (t, i))).Disjoint ((List.range m).map (fun i => (t', i))) := by
    intro k hk hk'
    obtain ⟨_, _, rfl⟩ := List.mem_map.mp hk
    obtain ⟨_, _, heq⟩ := List.mem_map.mp hk'
    exact h (congrArg Prod.fst heq).symm
  refine ((hfile _ _).append (hfile _ _) (hdisjoint _ _ (by decide) _ _)).append (hfile _ _) ?_
  exact List.disjoint_append_left.mpr ⟨hdisjoint _ _ (by decide) _ _, hdisjoint _ _ (by decide) _ _⟩

/-- Every counter of the block is zero after. -/
theorem zeroCounters_counterList : u.zeroCounters (counterList u) = { u with
    expectFa := List.replicate u.expectFa.length 0
    expectHp := PerHp.pure 0
    expectHm := PerHp.pure 0 } := by
  obtain ⟨fa, hp, hm, hlen, hframe⟩ := zeroCounters_frame u (counterList u)
  have hzero (t : ActType) (i : Nat) (hk : (t, i) ∈ counterList u) :
      FrameUnit.expect { u with expectFa := fa, expectHp := hp, expectHm := hm } t i = 0 := by
    rw [← hframe]
    exact (expect_zeroCounters u (counterList u) (t, i)).trans (if_pos hk)
  have hsix (h : Hp) : h.number < 6 := by cases h <;> decide
  have hfa : fa = List.replicate u.expectFa.length 0 := by
    refine List.ext_getElem (by rw [hlen, List.length_replicate]) fun i hi _ => ?_
    rw [List.getElem_replicate, ← List.getD_eq_getElem fa 0 hi]
    exact hzero .forceActuator i ((mem_counterList u _ _).mpr (.inl ⟨rfl, hlen ▸ hi⟩))
  have hhp : hp = PerHp.pure 0 := PerHp.ext_get fun h => by
    have hk := hzero .hardpoint h.number ((mem_counterList u _ _).mpr (.inr ⟨.inl rfl, hsix h⟩))
    rwa [expect_hardpoint, hpCounter, Hp.ofIndex_number, ← PerHp.get_pure (0 : I32) h] at hk
  have hhm : hm = PerHp.pure 0 := PerHp.ext_get fun h => by
    have hk := hzero .hardpointMonitor h.number ((mem_counterList u _ _).mpr (.inr ⟨.inr rfl, hsix h⟩))
    rwa [expect_hardpointMonitor, hpCounter, Hp.ofIndex_number, ← PerHp.get_pure (0 : I32) h] at hk
  rw [hframe, hfa, hhp, hhm]

end

/-! ## The reports -/

/-- The warning about a late counter (R250, R382). -/
def timeoutWarning (c : Cfg) (ts : U64) (k : ActType × Nat) : IlcWarn :=
  ⟨ts, idOf c k.1 k.2, true, false, false, false, false, false, false, false, false, true⟩

theorem raise_responseTimeout (w : IlcWarn) (c : Cfg) (ts : U64) (k : ActType × Nat) :
    w.raise .responseTimeout (idOf c k.1 k.2) ts = timeoutWarning c ts k := rfl

/-- The counters of a list that are not zero. -/
def lateCounters (u : FrameUnit) (l : List (ActType × Nat)) : List (ActType × Nat) :=
  l.filter (fun k => u.expect k.1 k.2 != 0)

/-- The warning register after some reports: the last of them. -/
def lastTimeout (c : Cfg) (ts : U64) (late : List (ActType × Nat)) (w : IlcWarn) : IlcWarn :=
  match late.getLast? with
  | none => w
  | some k => timeoutWarning c ts k

/-- The state after the counters of `l` were reconciled. -/
def State.reconciled (s : State) (ts : U64) (l : List (ActType × Nat)) : State :=
  { s with
    frame := { s.frame.zeroCounters l with
      ilcWarn := lastTimeout s.cfg ts (lateCounters s.frame l) s.frame.ilcWarn }
    log := s.log ++ (lateCounters s.frame l).map (fun k => .warning (timeoutWarning s.cfg ts k)) }

theorem reconcileOne_of_zero {s : State} {k : ActType × Nat} (h : s.frame.expect k.1 k.2 = 0) (ts : U64) :
    reconcileOne ts s k = s := if_pos h

theorem zeroCounter_ilcWarn (u : FrameUnit) (k : ActType × Nat) (w : IlcWarn) :
    FrameUnit.zeroCounter { u with ilcWarn := w } k = { u.zeroCounter k with ilcWarn := w } := by
  obtain ⟨t, i⟩ := k
  cases t with
  | unknown | forceActuator => rfl
  | hardpoint => rw [zeroCounter_hardpoint, zeroCounter_hardpoint]
  | hardpointMonitor => rw [zeroCounter_hardpointMonitor, zeroCounter_hardpointMonitor]

theorem reconcileOne_of_late {s : State} {k : ActType × Nat} (h : s.frame.expect k.1 k.2 ≠ 0) (ts : U64) :
    reconcileOne ts s k = { s with
      frame := { s.frame.zeroCounter k with ilcWarn := timeoutWarning s.cfg ts k }
      log := s.log ++ [.warning (timeoutWarning s.cfg ts k)] } := by
  rw [← zeroCounter_ilcWarn, ← raise_responseTimeout s.frame.ilcWarn]
  exact if_neg h

/-- A counter looked at once, after the others. -/
theorem reconcileOne_reconciled {l : List (ActType × Nat)} {k : ActType × Nat} (hk : k ∉ l) (s : State)
    (ts : U64) : reconcileOne ts (s.reconciled ts l) k = s.reconciled ts (l ++ [k]) := by
  have hcounter : (s.reconciled ts l).frame.expect k.1 k.2 = s.frame.expect k.1 k.2 :=
    (expect_zeroCounters s.frame l k).trans (if_neg hk)
  by_cases hzero : s.frame.expect k.1 k.2 = 0
  · have hlate : lateCounters s.frame (l ++ [k]) = lateCounters s.frame l := by
      simp [lateCounters, List.filter_append, hzero]
    have hsame : (s.frame.zeroCounters l).zeroCounter k = s.frame.zeroCounters l :=
      zeroCounter_of_zero (hcounter.trans hzero)
    rw [reconcileOne_of_zero (hcounter.trans hzero)]
    unfold State.reconciled
    rw [hlate, zeroCounters_concat, hsame]
  · have hlate : lateCounters s.frame (l ++ [k]) = lateCounters s.frame l ++ [k] :=
      (List.filter_append ..).trans (congrArg _ (List.filter_cons_of_pos (bne_iff_ne.mpr hzero)))
    have hwarn (w : IlcWarn) : lastTimeout s.cfg ts (lateCounters s.frame (l ++ [k])) w =
        timeoutWarning s.cfg ts k := by
      rw [hlate, lastTimeout, List.getLast?_concat]
    have hlog : s.log ++ (lateCounters s.frame (l ++ [k])).map (fun k => .warning (timeoutWarning s.cfg ts k)) =
        (s.reconciled ts l).log ++ [.warning (timeoutWarning s.cfg ts k)] := by
      rw [hlate, List.map_append, ← List.append_assoc]
      rfl
    have hframe : (s.reconciled ts l).frame.zeroCounter k =
        { s.frame.zeroCounters (l ++ [k]) with ilcWarn := (s.reconciled ts l).frame.ilcWarn } := by
      rw [zeroCounters_concat]
      exact zeroCounter_ilcWarn ..
    rw [reconcileOne_of_late (hcounter ▸ hzero), hframe]
    conv_rhs => rw [State.reconciled, hwarn, hlog]
    rfl

theorem foldl_reconcileOne {l : List (ActType × Nat)} (hl : l.Nodup) (s : State) (ts : U64) :
    l.foldl (reconcileOne ts) s = s.reconciled ts l := by
  induction l using List.reverseRecOn with
  | nil => simp [State.reconciled, lateCounters, lastTimeout, FrameUnit.zeroCounters]
  | append_singleton l k ih =>
    obtain ⟨hl', _, hk⟩ := List.nodup_append'.mp hl
    rw [List.foldl_concat, ih hl']
    exact reconcileOne_reconciled (fun hmem => hk hmem (List.mem_singleton_self k)) s ts

theorem anyExpected_eq (u : FrameUnit) : anyExpected u = !(lateCounters u (counterList u)).isEmpty := by
  rw [Bool.eq_iff_iff, anyExpected, lateCounters, Bool.not_eq_true', ← Bool.not_eq_true, List.isEmpty_iff,
    List.filter_eq_nil_iff, List.any_eq_true]
  push Not
  rfl

/-- Settles O36: the counters are reconciled one by one in their order, each once. -/
theorem reconcile : Obligations.Reconcile := by
  unfold Obligations.Reconcile
  intro s ts hs
  have hexec : exec (.reconcile ts) s = execReconcile ts s := rfl
  rw [hexec, execReconcile, whenReady_ready hs, State.done_eq, State.reconcile,
    foldl_reconcileOne (counterList_nodup s.frame), anyExpected_eq, State.reconciled, zeroCounters_counterList]
  rfl

end Sys2Proof.Machine

/-! # Frames of an RX batch (spec/42_frame_parse.md R212 to R214; spec/30_encoding.md R117, R118)

`validate_frame` is `VALIDATE_CRC` on a batch cut into what stands before the frame, the frame's words, its
delimiters and the rest; O29 is read off it, and the loop of `PARSE` runs it once per frame. -/

namespace Sys2Proof.Machine

/-! ## One frame -/

/-- The words after a frame's delimiters do not begin with one more. -/
def noDelimAhead (c : Cfg) (rest : List Word16) : Prop :=
  ∀ x, rest.head? = some x → (classify c x).isDelim = false

theorem takeWhile_of_head {α : Type} {f : α → Bool} {l r : List α} (hl : ∀ x, x ∈ l → f x = true)
    (hr : ∀ x, r.head? = some x → f x = false) : (l ++ r).takeWhile f = l := by
  rw [List.takeWhile_append_of_pos hl]
  cases r with
  | nil => exact List.append_nil l
  | cons x r => rw [List.takeWhile_cons_of_neg (ne_true_of_eq_false (hr x rfl)), List.append_nil]

section
variable {c : Cfg} {w pre ws ds rest : List Word16}

theorem beforeDelim_eq (hw : w = pre ++ ws ++ rest) (hws : ∀ x, x ∈ ws → (classify c x).isDelim = false)
    (hrest : ∀ x, rest.head? = some x → (classify c x).isDelim = true) :
    beforeDelim c w pre.length = ws := by
  rw [beforeDelim, hw, List.append_assoc, List.drop_left]
  exact takeWhile_of_head (fun x hx => by rw [hws x hx]; rfl) fun x hx => by rw [hrest x hx]; rfl

/-- Words without a delimiter after them are no frame (R213). -/
theorem validate_truncated (hw : w = pre ++ ws) (hws : ∀ x, x ∈ ws → (classify c x).isDelim = false) :
    validate c w pre.length = (.truncated, [], w.length) := by
  have hbefore : beforeDelim c w pre.length = ws :=
    beforeDelim_eq (rest := []) (by rw [hw, List.append_nil]) hws (by simp)
  rw [validate, hbefore]
  exact if_pos (by rw [hw, List.length_append])

theorem nextFrame_eq (hw : w = pre ++ ds ++ rest) (hds : ∀ x, x ∈ ds → (classify c x).isDelim = true)
    (hrest : noDelimAhead c rest) : nextFrame c w pre.length =
      pre.length + ds.length + if rest.head?.any (fun x => (classify c x).isEof) then 1 else 0 := by
  have hdrop : w.drop pre.length = ds ++ rest := by rw [hw, List.append_assoc, List.drop_left]
  have hafter : w.drop (pre.length + ds.length) = rest := by
    rw [hw, ← List.length_append, List.drop_left]
  rw [nextFrame, hdrop, takeWhile_of_head hds hrest, hafter]
  cases rest with
  | nil => rfl
  | cons x r => exact (apply_ite (pre.length + ds.length + ·) _ 1 0).symm

/-- A frame's bytes end at its delimiters; the next frame starts after them and an end marker (R213). -/
theorem validate_frame (hw : w = pre ++ ws ++ ds ++ rest)
    (hws : ∀ x, x ∈ ws → (classify c x).isDelim = false)
    (hds : ∀ x, x ∈ ds → (classify c x).isDelim = true) (hne : ds ≠ []) (hrest : noDelimAhead c rest) :
    validate c w pre.length =
      ((crcVerdict (ws.map (rxDataByte c.tables))).1, (crcVerdict (ws.map (rxDataByte c.tables))).2,
        pre.length + ws.length + ds.length +
          if rest.head?.any (fun x => (classify c x).isEof) then 1 else 0) := by
  have hbefore : beforeDelim c w pre.length = ws := by
    refine beforeDelim_eq (rest := ds ++ rest) (by rw [hw, List.append_assoc _ ds]) hws fun x hx => ?_
    rw [List.head?_append_of_ne_nil _ hne] at hx
    exact hds x (List.mem_of_head? hx)
  have hlen : ¬ w.length ≤ pre.length + ws.length := by
    have hpos := List.length_pos_of_ne_nil hne
    simp only [hw, List.length_append]
    omega
  have hnext := nextFrame_eq (pre := pre ++ ws) hw hds hrest
  rw [List.length_append] at hnext
  rw [validate, hbefore]
  dsimp only
  rw [if_neg hlen, hnext]

end

/-! ## `VALIDATE_CRC` (R213) -/

theorem exec_validateCrc_outside {s : State} (hs : s.ready = true) {b : Byte} (hb : Subnet.ofByte b = none)
    (p : Nat) : exec (.validateCrc b p) s = .next (s.respond .badOperand .none) := by
  have hexec : exec (.validateCrc b p) s = execValidateCrc b p s := rfl
  rw [hexec, execValidateCrc, whenReady_ready hs, hb, State.refuse_eq]

theorem exec_validateCrc {s : State} (hs : s.ready = true) (n : Subnet) (p : Nat) :
    exec (.validateCrc n.number p) s =
      if (s.frame.rx.get n).length ≤ p then .next (s.respond .badOperand .none)
      else .next (s.respond .ok (.verdict (validate s.cfg (s.frame.rx.get n) p).1
        (validate s.cfg (s.frame.rx.get n) p).2.1 (validate s.cfg (s.frame.rx.get n) p).2.2)) := by
  have hexec : exec (.validateCrc n.number p) s = execValidateCrc n.number p s := rfl
  rw [hexec, execValidateCrc, whenReady_ready hs, Subnet.ofByte_number]
  rfl

theorem crcVerdict_short {bs : List Byte} (h : bs.length < 4) : crcVerdict bs = (.tooShort, []) := if_pos h

/-- The CRC field holds the CRC's low byte first (R122). -/
theorem crcField_append (lo hi : Byte) : crcField (hi ++ lo) = [lo, hi] := by
  have hvalue := toNat_append_byte hi lo
  have hlow : (hi ++ lo).extractLsb' 0 8 = lo := BitVec.eq_of_toNat_eq (by
    rw [BitVec.extractLsb'_toNat, hvalue, Nat.shiftRight_zero]
    omega)
  have hhigh : (hi ++ lo).extractLsb' 8 8 = hi := BitVec.eq_of_toNat_eq (by
    rw [BitVec.extractLsb'_toNat, hvalue, Nat.shiftRight_eq_div_pow]
    omega)
  rw [crcField, hlow, hhigh]

theorem eq_crcField_iff (lo hi : Byte) (v : BitVec 16) : [lo, hi] = crcField v ↔ v = hi ++ lo := by
  rw [← crcField_append, crcField_injective.eq_iff, eq_comm]

/-- Settles O29: the branches of `validate`. -/
theorem validateCrc : Obligations.ValidateCrc := by
  unfold Obligations.ValidateCrc
  refine fun s hs => ⟨fun b p hb => exec_validateCrc_outside hs (Subnet.ofByte_of_outside hb) p, fun n =>
    ⟨fun p hp => (exec_validateCrc hs n p).trans (if_pos hp), fun pre ws ds rest hw hws hds =>
      ⟨fun hd hr hne => ?_, fun hne hrest => ?_⟩⟩⟩
  · subst hd hr
    rw [List.append_nil, List.append_nil] at hw
    have hlen : ¬ (s.frame.rx.get n).length ≤ pre.length := by
      have hpos := List.length_pos_of_ne_nil hne
      rw [hw, List.length_append]
      omega
    rw [exec_validateCrc hs, if_neg hlen, validate_truncated hw hws]
  · have hlen : ¬ (s.frame.rx.get n).length ≤ pre.length := by
      have hpos := List.length_pos_of_ne_nil hne
      simp only [hw, List.length_append]
      omega
    have hrun := exec_validateCrc hs n pre.length
    rw [if_neg hlen, validate_frame hw hws hds hne hrest] at hrun
    refine ⟨fun hshort => ?_, fun body lo hi hbytes hbody => ?_⟩
    · rw [crcVerdict_short hshort] at hrun
      exact hrun
    · rw [hbytes, crcVerdict_append hbody rfl, if_congr (eq_crcField_iff ..) rfl rfl] at hrun
      rw [hrun]
      by_cases hcrc : crc16 body = hi ++ lo
      · simp only [if_pos hcrc]
      · simp only [if_neg hcrc]

/-! ## The loop of `PARSE` (R212) -/

theorem crcVerdict_ne_truncated (bs : List Byte) : (crcVerdict bs).1 ≠ .truncated := by
  unfold crcVerdict
  split
  · nofun
  · dsimp only
    split <;> nofun

/-- What one frame does leaves the configuration. -/
theorem frameRun_cfg (sub : Byte) (ts : U64) (r : State × Nat) (f : List Word16 × List Word16) :
    (frameRun sub ts r f).1.cfg = r.1.cfg := by
  unfold frameRun
  split
  · exact congrArg Prod.fst (State.goodFrame_config ..)
  · rfl
  · rfl

/-- One time round the loop is one frame. -/
theorem parseLoop_frame {sub : Byte} {w : List Word16} {ts : U64} {fuel p q : Nat} {r : State × Nat}
    {f : List Word16 × List Word16} (hp : p < w.length)
    (hv : validate r.1.cfg w p = ((crcVerdict (f.1.map (rxDataByte r.1.cfg.tables))).1,
      (crcVerdict (f.1.map (rxDataByte r.1.cfg.tables))).2, q)) :
    parseLoop sub w ts (fuel + 1) p r.1 r.2 =
      parseLoop sub w ts fuel q (frameRun sub ts r f).1 (frameRun sub ts r f).2 := by
  have hverdict := crcVerdict_ne_truncated (f.1.map (rxDataByte r.1.cfg.tables))
  rw [parseLoop, if_neg (Nat.not_le.mpr hp), hv, frameRun]
  cases hcrc : crcVerdict (f.1.map (rxDataByte r.1.cfg.tables)) with
  | mk v body =>
    rw [hcrc] at hverdict
    cases v with
    | good | badCrc | tooShort => rfl
    | truncated => exact absurd rfl hverdict

theorem isDelim_of_isEof {x : RxClass} (h : x.isEof = true) : x.isDelim = false := by
  cases x with
  | delim => cases h
  | eof | data => rfl

/-- The words of a batch after its timestamp (R117). -/
def frameWords (frames : List (List Word16 × List Word16)) (rest : List Word16) : List Word16 :=
  frames.flatMap (fun f => f.1 ++ f.2) ++ rest

theorem frameWords_cons (f : List Word16 × List Word16) (fs : List (List Word16 × List Word16))
    (rest : List Word16) : frameWords (f :: fs) rest = f.1 ++ f.2 ++ frameWords fs rest := by
  rw [frameWords, List.flatMap_cons, List.append_assoc, frameWords]

/-- The verdict on a frame of a batch, and where the next one starts: at the frame's end, with and without an
end marker (R213). -/
theorem validate_rxFrame {c : Cfg} {f : List Word16 × List Word16} {fs : List (List Word16 × List Word16)}
    {w pre rest : List Word16} (hf : rxFrames c (f :: fs) rest) (hw : w = pre ++ frameWords (f :: fs) rest) :
    validate c w pre.length = ((crcVerdict (f.1.map (rxDataByte c.tables))).1,
      (crcVerdict (f.1.map (rxDataByte c.tables))).2, (pre ++ f.1 ++ f.2).length) := by
  obtain ⟨hws, ⟨ds, m, hf2, hne, hds, hmark⟩, _⟩ := hf
  have hcut : w = pre ++ f.1 ++ ds ++ (m ++ frameWords fs rest) := by
    rw [hw, frameWords_cons, hf2]
    simp only [List.append_assoc]
  rcases hmark with ⟨x, rfl, heof⟩ | ⟨rfl, hahead⟩
  · have hnodelim : noDelimAhead c ([x] ++ frameWords fs rest) := by
      intro y hy
      cases hy
      exact isDelim_of_isEof heof
    rw [validate_frame hcut hws hds hne hnodelim]
    simp [hf2, heof, Nat.add_assoc]
  · have hnone : (frameWords fs rest).head?.any (fun x => (classify c x).isEof) = false := by
      cases hh : (frameWords fs rest).head? with
      | none => rfl
      | some y => exact (hahead y hh).2
    rw [validate_frame hcut hws hds hne fun y hy => (hahead y hy).1]
    simp [hf2, hnone, Nat.add_assoc]

/-- What is left over after the last frame is one warning. -/
theorem parseLoop_rest (sub : Byte) (ts : U64) {w pre rest : List Word16} {fuel : Nat} {r : State × Nat}
    (hw : w = pre ++ rest) (hrest : ∀ x, x ∈ rest → (classify r.1.cfg x).isDelim = false)
    (hfuel : rest.length ≤ fuel) :
    parseLoop sub w ts fuel pre.length r.1 r.2 =
      (if rest = [] then r.1 else r.1.emit .invalidLength (-1) ts, r.2) := by
  by_cases hempty : rest = []
  · rw [if_pos hempty]
    cases fuel with
    | zero => rfl
    | succ fuel => rw [parseLoop, if_pos (by rw [hw, hempty, List.append_nil])]
  · have hpos := List.length_pos_of_ne_nil hempty
    obtain ⟨fuel, rfl⟩ := Nat.exists_eq_add_one_of_ne_zero (n := fuel) (by omega)
    have hp : ¬ w.length ≤ pre.length := by
      rw [hw, List.length_append]
      omega
    rw [if_neg hempty, parseLoop, if_neg hp, validate_truncated hw hrest]

/-- The loop runs the frames one after the other; what is left over is one warning. A round takes at least one
word, so that the number of words is fuel enough. -/
theorem parseLoop_frames (sub : Byte) (ts : U64) {w rest : List Word16}
    (frames : List (List Word16 × List Word16)) (pre : List Word16) (fuel : Nat) (r : State × Nat)
    (hw : w = pre ++ frameWords frames rest) (hf : rxFrames r.1.cfg frames rest)
    (hfuel : (frameWords frames rest).length ≤ fuel) :
    parseLoop sub w ts fuel pre.length r.1 r.2 =
      (if rest = [] then (frames.foldl (frameRun sub ts) r).1
        else (frames.foldl (frameRun sub ts) r).1.emit .invalidLength (-1) ts,
        (frames.foldl (frameRun sub ts) r).2) := by
  induction frames generalizing pre fuel r with
  | nil =>
    rw [List.foldl_nil]
    exact parseLoop_rest sub ts hw hf hfuel
  | cons f fs ih =>
    have hv := validate_rxFrame hf hw
    obtain ⟨_, ⟨ds, m, hf2, hne, _⟩, hfs⟩ := hf
    have hpos : 0 < f.2.length := by
      have hds := List.length_pos_of_ne_nil hne
      rw [hf2, List.length_append]
      omega
    have hlen : (frameWords (f :: fs) rest).length =
        f.1.length + f.2.length + (frameWords fs rest).length := by
      rw [frameWords_cons, List.length_append, List.length_append]
    have hp : pre.length < w.length := by
      rw [hw, List.length_append]
      omega
    obtain ⟨fuel, rfl⟩ := Nat.exists_eq_add_one_of_ne_zero (n := fuel) (by omega)
    rw [parseLoop_frame hp hv, List.foldl_cons]
    refine ih (pre ++ f.1 ++ f.2) fuel (frameRun sub ts r f) ?_ ?_ (by omega)
    · rw [hw, frameWords_cons]
      simp only [List.append_assoc]
    · rw [frameRun_cfg]
      exact hfs

/-! ## `PARSE` (R212) -/

/-- The first word of the timestamp is the most significant one (R118). -/
theorem batchTimestamp_words (t0 t1 t2 t3 : Word16) (l : List Word16) :
    batchTimestamp (t0 :: t1 :: t2 :: t3 :: l) = t0 ++ t1 ++ t2 ++ t3 := by
  have hword {n : Nat} (v : BitVec n) (x : Word16) : (v ++ x).toNat = v.toNat * 65536 + x.toNat := by
    rw [BitVec.toNat_append, ← Nat.shiftLeft_add_eq_or_of_lt x.isLt, Nat.shiftLeft_eq]
  have hvalue : (t0 ++ t1 ++ t2 ++ t3).toNat =
      (t0 :: t1 :: t2 :: t3 :: l |>.take 4 |>.foldl (fun a x => a * 65536 + x.toNat) 0) := by
    rw [hword, hword, hword]
    simp
  rw [batchTimestamp, ← hvalue]
  exact BitVec.ofNat_toNat ..

theorem exec_parse_outside {s : State} (hs : s.ready = true) {k : Byte} {b : Option Byte}
    (hb : Subnet.ofByte (b.getD k) = none) : exec (.parse k b) s = .next (s.respond .badOperand .none) := by
  have hexec : exec (.parse k b) s = execParse k b s := rfl
  rw [hexec, execParse, whenReady_ready hs, hb, State.refuse_eq]

theorem exec_parse_buffer {s : State} (hs : s.ready = true) (k : Byte) (n : Subnet) :
    exec (.parse k (some n.number)) s =
      .next ((s.parseBatch k n).1.respond .ok (.frames (s.parseBatch k n).2)) := by
  have hexec : exec (.parse k (some n.number)) s = execParse k (some n.number) s := rfl
  rw [hexec, execParse, whenReady_ready hs, Option.getD_some, Subnet.ofByte_number]
  rfl

section
variable {s : State} {n : Subnet} (k : Byte)

theorem parseBatch_empty (h : s.frame.rx.get n = []) : s.parseBatch k n = (s, 0) := by
  rw [State.parseBatch, h]
  rfl

theorem parseBatch_short (hne : s.frame.rx.get n ≠ []) (h : (s.frame.rx.get n).length < 4) :
    s.parseBatch k n = (s.emit .invalidLength (-1) (s.frame.rxts.get n), 0) := by
  have hlen : (s.frame.rx.get n).length ≠ 0 := fun h0 => hne (List.length_eq_zero_iff.mp h0)
  rw [State.parseBatch]
  dsimp only
  rw [if_neg hlen, if_pos h]

theorem parseBatch_frames {t0 t1 t2 t3 : Word16} {frames : List (List Word16 × List Word16)}
    {rest : List Word16} (hw : s.frame.rx.get n = t0 :: t1 :: t2 :: t3 :: frameWords frames rest)
    (hf : rxFrames s.cfg frames rest) :
    s.parseBatch k n =
      let ts := t0 ++ t1 ++ t2 ++ t3
      let r := frames.foldl (frameRun k ts) (s.setRxts n ts, 0)
      (if rest = [] then r.1 else r.1.emit .invalidLength (-1) ts, r.2) := by
  have hloop := parseLoop_frames k (t0 ++ t1 ++ t2 ++ t3) frames [t0, t1, t2, t3] (s.frame.rx.get n).length
    (s.setRxts n (t0 ++ t1 ++ t2 ++ t3), 0) hw hf (by rw [hw]; simp only [List.length_cons]; omega)
  rw [State.parseBatch]
  dsimp only
  rw [if_neg (by rw [hw]; exact Nat.succ_ne_zero _), if_neg (by rw [hw]; simp only [List.length_cons]; omega)]
  exact (congrArg (fun ts => parseLoop k (s.frame.rx.get n) ts _ 4 (s.setRxts n ts) 0)
    (hw ▸ batchTimestamp_words ..)).trans hloop

end

/-- Settles O30: past the timestamp the loop is `parseLoop_frames`. -/
theorem parseFrameByFrame : Obligations.ParseFrameByFrame := by
  unfold Obligations.ParseFrameByFrame
  refine fun s hs => ⟨fun k b hb => ?_, fun n k => ⟨rfl, fun hempty => ?_, fun hne hshort => ?_, ?_⟩⟩
  · have hout := Subnet.ofByte_of_outside hb
    exact ⟨exec_parse_outside hs hout, exec_parse_outside hs hout⟩
  · rw [exec_parse_buffer hs, parseBatch_empty k hempty]
  · rw [exec_parse_buffer hs, parseBatch_short k hne hshort]
  · intro t0 t1 t2 t3 frames rest hw hf
    rw [exec_parse_buffer hs, parseBatch_frames k hw hf]

end Sys2Proof.Machine

/-! # The bounded move and the coercion (spec/43_force_pipeline.md R266, R267)

A sum or a difference of finite values has the order key of its exact value rounded, and rounding is
monotone: so the bounded move stays between where it starts and its target. -/

namespace Sys2Proof

-- One proof after another, as in Tests/Slice0.lean: in many threads at once they take too much memory.
set_option Elab.async false

namespace Fmt

variable {f : Fmt} {a b v : Nat}

/-- The order key of a whole number of units rounded to the format. -/
def rnd (f : Fmt) (k : Int) : Int :=
  if k < 0 then -(f.roundMag k.natAbs 1 : Int) else (f.roundMag k.natAbs 1 : Int)

theorem roundMag_zero (f : Fmt) : f.roundMag 0 1 = 0 := by simp [roundMag, roundEven]

theorem rnd_zero (f : Fmt) : f.rnd 0 = 0 := by simp [rnd, roundMag_zero]

theorem rnd_neg (f : Fmt) (k : Int) : f.rnd (-k) = -f.rnd k := by
  unfold rnd
  rw [Int.natAbs_neg]
  rcases Int.lt_trichotomy k 0 with h | rfl | h
  · rw [if_pos h, if_neg (by omega), Int.neg_neg]
  · simp [roundMag_zero]
  · rw [if_pos (by omega), if_neg (by omega)]

theorem rnd_mono (f : Fmt) {j k : Int} (h : j ≤ k) : f.rnd j ≤ f.rnd k := by
  unfold rnd
  by_cases hj : j < 0 <;> by_cases hk : k < 0
  · have := roundMag_mono f (n := k.natAbs) (m := j.natAbs) (by omega)
    rw [if_pos hj, if_pos hk]
    omega
  · rw [if_pos hj, if_neg hk]
    omega
  · omega
  · have := roundMag_mono f (n := j.natAbs) (m := k.natAbs) (by omega)
    rw [if_neg hj, if_neg hk]
    omega

theorem lt_of_rnd_lt {j k : Int} (h : f.rnd j < f.rnd k) : j < k :=
  Int.not_le.mp fun hkj => Int.not_le.mpr h (f.rnd_mono hkj)

/-- A finite value is its own rounding. -/
theorem key_eq_rnd_value (h : f.mag v < f.inf) : f.key v = f.rnd (f.value v) := by
  have hexact := roundMag_units f h
  unfold key value
  cases hn : f.neg v with
  | false => simp [rnd, hexact]
  | true => simp only [if_true, rnd_neg]; simp [rnd, hexact]

/-- A value that is no NaN is finite where its key is strictly between those of the infinities. -/
theorem mag_lt_inf_iff_key : f.mag v < f.inf ↔ -(f.inf : Int) < f.key v ∧ f.key v < f.inf := by
  unfold key
  split <;> omega

theorem not_isNaN_of_finite (h : f.mag v < f.inf) : f.isNaN v = false := decide_eq_false (by omega)

/-- A sum of finite values is no NaN, fits the word, and is ordered as the exact sum rounded. -/
theorem add_finite (nan : Nat) (ha : f.mag a < f.inf) (hb : f.mag b < f.inf) :
    f.isNaN (f.add nan a b) = false ∧ f.add nan a b < 2 * f.signBit ∧
      f.key (f.add nan a b) = f.rnd (f.value a + f.value b) := by
  have hia : f.isInf a = false := decide_eq_false (by omega)
  have hib : f.isInf b = false := decide_eq_false (by omega)
  simp only [add, not_isNaN_of_finite ha, not_isNaN_of_finite hb, hia, hib, Bool.or_self,
    Bool.false_eq_true, if_false]
  split
  · rename_i hk
    have h0 : 0 ≤ f.inf := Nat.zero_le _
    exact ⟨isNaN_withSign h0, withSign_lt h0, by rw [key_withSign h0, hk, rnd_zero]; simp⟩
  · have hle := f.roundMag_le_inf (f.value a + f.value b).natAbs 1
    exact ⟨isNaN_withSign hle, withSign_lt hle, by rw [key_withSign hle]; simp [rnd]⟩

theorem sub_finite (nan : Nat) (ha : f.mag a < f.inf) (hb : f.mag b < f.inf) :
    f.isNaN (f.sub nan a b) = false ∧ f.sub nan a b < 2 * f.signBit ∧
      f.key (f.sub nan a b) = f.rnd (f.value a - f.value b) := by
  have hna := not_isNaN_of_finite ha
  have hnb := not_isNaN_of_finite hb
  have hsub : f.sub nan a b = f.add nan a (f.negate b) := by simp [sub, hna, hnb]
  rw [hsub, Int.sub_eq_add_neg, ← value_negate hnb]
  exact add_finite nan ha ((mag_negate hnb).trans_lt hb)

end Fmt

/-! ## binary32 -/

theorem b32_toNat_ofNat {n : Nat} (h : n < 2 * b32.signBit) : (BitVec.ofNat 32 n).toNat = n := by
  have hbits : 2 * b32.signBit = 2 ^ 32 := by decide
  rw [BitVec.toNat_ofNat]
  exact Nat.mod_eq_of_lt (hbits ▸ h)

/-- The order key of a binary32 value. -/
def f32Key (a : F32) : Int := b32.key a.toNat

/-- A binary32 value in units. -/
def f32Value (a : F32) : Int := b32.value a.toNat

section

variable {a b : F32}

theorem f32Le_iff : f32Le a b = true ↔ f32IsNaN a = false ∧ f32IsNaN b = false ∧ f32Key a ≤ f32Key b :=
  Fmt.le_iff

theorem f32Lt_iff : f32Lt a b = true ↔ f32IsNaN a = false ∧ f32IsNaN b = false ∧ f32Key a < f32Key b :=
  Fmt.lt_iff

theorem f32Le_of_not_lt (ha : f32IsNaN a = false) (hb : f32IsNaN b = false) (h : ¬ f32Lt a b = true) :
    f32Le b a = true := Fmt.le_of_not_lt ha hb (Bool.eq_false_iff.mpr h)

theorem f32Le_refl (ha : f32IsNaN a = false) : f32Le a a = true := f32Le_iff.mpr ⟨ha, ha, Int.le_refl _⟩

theorem f32Key_zero : f32Key 0 = 0 := by decide

theorem f32IsNaN_zero : f32IsNaN 0 = false := by decide

theorem f32IsFinite_iff : f32IsFinite a = true ↔ b32.mag a.toNat < b32.inf := decide_eq_true_iff

theorem f32IsNaN_of_finite (h : f32IsFinite a = true) : f32IsNaN a = false :=
  Fmt.not_isNaN_of_finite (f32IsFinite_iff.mp h)

theorem f32IsFinite_iff_key :
    f32IsFinite a = true ↔ -(b32.inf : Int) < f32Key a ∧ f32Key a < b32.inf :=
  f32IsFinite_iff.trans Fmt.mag_lt_inf_iff_key

theorem f32Key_of_finite (h : f32IsFinite a = true) : f32Key a = b32.rnd (f32Value a) :=
  Fmt.key_eq_rnd_value (f32IsFinite_iff.mp h)

theorem f32Add_finite (ha : f32IsFinite a = true) (hb : f32IsFinite b = true) :
    f32IsNaN (f32Add a b) = false ∧ f32Key (f32Add a b) = b32.rnd (f32Value a + f32Value b) := by
  obtain ⟨hnan, hlt, hkey⟩ := Fmt.add_finite (nan32Of (Config.nan32 .add a b)) (f32IsFinite_iff.mp ha)
    (f32IsFinite_iff.mp hb)
  unfold f32IsNaN f32Key f32Add
  rw [b32_toNat_ofNat hlt]
  exact ⟨hnan, hkey⟩

theorem f32Sub_finite (ha : f32IsFinite a = true) (hb : f32IsFinite b = true) :
    f32IsNaN (f32Sub a b) = false ∧ f32Key (f32Sub a b) = b32.rnd (f32Value a - f32Value b) := by
  obtain ⟨hnan, hlt, hkey⟩ := Fmt.sub_finite (nan32Of (Config.nan32 .sub a b)) (f32IsFinite_iff.mp ha)
    (f32IsFinite_iff.mp hb)
  unfold f32IsNaN f32Key f32Sub
  rw [b32_toNat_ofNat hlt]
  exact ⟨hnan, hkey⟩

/-- The absolute value clears the sign alone (R267). -/
theorem f32Abs_spec (ha : f32IsNaN a = false) :
    f32IsNaN (f32Abs a) = false ∧ f32Key (f32Abs a) = (f32Key a).natAbs := by
  have hmag : b32.mag a.toNat ≤ b32.inf := Fmt.mag_le_inf ha
  have hbits : (f32Abs a).toNat = b32.withSign false (b32.mag a.toNat) :=
    b32_toNat_ofNat (Fmt.withSign_lt (s := false) hmag)
  have hkey : (f32Key a).natAbs = b32.mag a.toNat := by
    unfold f32Key Fmt.key
    split <;> simp
  unfold f32IsNaN
  rw [hkey, f32Key, hbits]
  exact ⟨Fmt.isNaN_withSign hmag, Fmt.key_withSign hmag⟩

end

/-! ## The bounded move -/

/-- What the bounded move can do (R266): land on the target, or go up or down by the rate, the target
being farther away. -/
theorem f32Step_cases {cur tgt r : F32} (hcur : f32IsFinite cur = true) (htgt : f32IsFinite tgt = true)
    (hr : f32IsFinite r = true) :
    f32Step cur tgt r = tgt ∨
      (f32Step cur tgt r = f32Add cur r ∧ f32Value cur + f32Value r < f32Value tgt) ∨
      (f32Step cur tgt r = f32Sub cur r ∧ f32Value tgt < f32Value cur - f32Value r) := by
  obtain ⟨hnan, hd⟩ := f32Sub_finite htgt hcur
  obtain ⟨hnanAbs, habs⟩ := f32Abs_spec hnan
  have hnanr := f32IsNaN_of_finite hr
  unfold f32Step
  dsimp only
  split
  · exact .inl rfl
  · rename_i hfar
    have hgap : b32.rnd (f32Value r) < (f32Key (f32Sub tgt cur)).natAbs := by
      rw [← f32Key_of_finite hr, ← habs]
      exact Int.not_le.mp fun h => hfar (f32Le_iff.mpr ⟨hnanAbs, hnanr, h⟩)
    split
    · rename_i hpos
      have hpos := (f32Lt_iff.mp hpos).2.2
      rw [f32Key_zero] at hpos
      have hlt : b32.rnd (f32Value r) < b32.rnd (f32Value tgt - f32Value cur) := by omega
      have := Fmt.lt_of_rnd_lt hlt
      exact .inr (.inl ⟨rfl, by omega⟩)
    · rename_i hpos
      have hneg := (f32Le_iff.mp (f32Le_of_not_lt f32IsNaN_zero hnan hpos)).2.2
      rw [f32Key_zero] at hneg
      have hlt : b32.rnd (f32Value r) < b32.rnd (-(f32Value tgt - f32Value cur)) := by
        rw [Fmt.rnd_neg]
        omega
      have := Fmt.lt_of_rnd_lt hlt
      exact .inr (.inr ⟨rfl, by omega⟩)

/-- The bounded move goes from the current value toward the target and not past it (R266). -/
theorem f32Step_between {cur tgt r : F32} (hcur : f32IsFinite cur = true) (htgt : f32IsFinite tgt = true)
    (hr : f32IsFinite r = true) (hpos : f32Lt 0 r = true) :
    f32IsNaN (f32Step cur tgt r) = false ∧
      ((f32Key cur ≤ f32Key (f32Step cur tgt r) ∧ f32Key (f32Step cur tgt r) ≤ f32Key tgt) ∨
        (f32Key tgt ≤ f32Key (f32Step cur tgt r) ∧ f32Key (f32Step cur tgt r) ≤ f32Key cur)) := by
  have hrate : 0 < f32Value r := by
    have hlt := (f32Lt_iff.mp hpos).2.2
    rw [f32Key_zero, f32Key_of_finite hr, ← b32.rnd_zero] at hlt
    exact Fmt.lt_of_rnd_lt hlt
  rw [f32Key_of_finite hcur, f32Key_of_finite htgt]
  rcases f32Step_cases hcur htgt hr with h | ⟨h, hbelow⟩ | ⟨h, habove⟩
  · rw [h, f32Key_of_finite htgt]
    exact ⟨f32IsNaN_of_finite htgt, by omega⟩
  · obtain ⟨hnan, hkey⟩ := f32Add_finite hcur hr
    rw [h, hkey]
    exact ⟨hnan, .inl ⟨b32.rnd_mono (by omega), b32.rnd_mono (by omega)⟩⟩
  · obtain ⟨hnan, hkey⟩ := f32Sub_finite hcur hr
    rw [h, hkey]
    exact ⟨hnan, .inr ⟨b32.rnd_mono (by omega), b32.rnd_mono (by omega)⟩⟩

theorem f32Step_of_within {cur tgt r : F32} (h : f32Le (f32Abs (f32Sub tgt cur)) r = true) :
    f32Step cur tgt r = tgt := if_pos h

theorem f32Step_isFinite {cur tgt r : F32} (hcur : f32IsFinite cur = true) (htgt : f32IsFinite tgt = true)
    (hr : f32IsFinite r = true) (hpos : f32Lt 0 r = true) : f32IsFinite (f32Step cur tgt r) = true := by
  obtain ⟨_, hbetween⟩ := f32Step_between hcur htgt hr hpos
  rw [f32IsFinite_iff_key] at *
  omega

/-! ## The coercion -/

/-- What the coercion answers (R266). -/
theorem f32Clamp_cases (v lo hi : F32) :
    (f32Lt v lo = true ∧ f32Clamp v lo hi = lo) ∨
      (¬ f32Lt v lo = true ∧ f32Lt hi v = true ∧ f32Clamp v lo hi = hi) ∨
      (¬ f32Lt v lo = true ∧ ¬ f32Lt hi v = true ∧ f32Clamp v lo hi = v) := by
  unfold f32Clamp
  split
  · exact .inl ⟨‹_›, rfl⟩
  · split
    · exact .inr (.inl ⟨‹_›, ‹_›, rfl⟩)
    · exact .inr (.inr ⟨‹_›, ‹_›, rfl⟩)

theorem f32Clamp_isFinite {v lo hi : F32} (hv : f32IsFinite v = true) (hlo : f32IsFinite lo = true)
    (hhi : f32IsFinite hi = true) : f32IsFinite (f32Clamp v lo hi) = true := by
  rcases f32Clamp_cases v lo hi with ⟨_, h⟩ | ⟨_, _, h⟩ | ⟨_, _, h⟩ <;> rwa [h]

theorem f32Clamp_within {v lo hi : F32} (hv : f32IsNaN v = false) (h : f32Le lo hi = true) :
    f32Le lo (f32Clamp v lo hi) = true ∧ f32Le (f32Clamp v lo hi) hi = true := by
  obtain ⟨hlo, hhi, _⟩ := f32Le_iff.mp h
  rcases f32Clamp_cases v lo hi with ⟨_, hc⟩ | ⟨_, _, hc⟩ | ⟨hnlo, hnhi, hc⟩ <;> rw [hc]
  · exact ⟨f32Le_refl hlo, h⟩
  · exact ⟨h, f32Le_refl hhi⟩
  · exact ⟨f32Le_of_not_lt hv hlo hnlo, f32Le_of_not_lt hhi hv hnhi⟩

theorem f32Lt_of_le {a b : F32} (h : f32Le b a = true) : ¬ f32Lt a b = true := fun hlt =>
  Int.not_lt.mpr (f32Le_iff.mp h).2.2 (f32Lt_iff.mp hlt).2.2

theorem f32Clamp_of_within {v lo hi : F32} (hlo : f32Le lo v = true) (hhi : f32Le v hi = true) :
    f32Clamp v lo hi = v := by
  rw [f32Clamp, if_neg (f32Lt_of_le hlo), if_neg (f32Lt_of_le hhi)]

/-- Settles O42: the move is `f32Step_between`, the coercion `f32Clamp_within`. -/
theorem stepAndClamp : Obligations.StepAndClamp := by
  unfold Obligations.StepAndClamp
  refine ⟨fun cur tgt r hcur htgt hr hpos => ⟨f32Step_of_within, ?_, ?_⟩, fun v lo hi hv h => ?_⟩
  · intro hle
    obtain ⟨hnanc, hnant, hkey⟩ := f32Le_iff.mp hle
    obtain ⟨hnan, hbetween⟩ := f32Step_between hcur htgt hr hpos
    exact ⟨f32Le_iff.mpr ⟨hnanc, hnan, by omega⟩, f32Le_iff.mpr ⟨hnan, hnant, by omega⟩⟩
  · intro hle
    obtain ⟨hnant, hnanc, hkey⟩ := f32Le_iff.mp hle
    obtain ⟨hnan, hbetween⟩ := f32Step_between hcur htgt hr hpos
    exact ⟨f32Le_iff.mpr ⟨hnant, hnan, by omega⟩, f32Le_iff.mpr ⟨hnan, hnanc, by omega⟩⟩
  · obtain ⟨hlow, hhigh⟩ := f32Clamp_within hv h
    exact ⟨hlow, hhigh, f32Clamp_of_within⟩

end Sys2Proof

/-! # The components: exact zeros where they rest, finite forces always
(spec/43_force_pipeline.md R263, R267, R274) -/

namespace Sys2Proof.Machine

-- One proof after another, as in Tests/Slice0.lean: in many threads at once they take too much memory.
set_option Elab.async false

/-! ## Triples whose elements all meet a condition -/

theorem list_all_zipWith {α β γ : Type} {p : α → Bool} {q : β → Bool} {r : γ → Bool} {f : α → β → γ}
    (hf : ∀ a b, p a = true → q b = true → r (f a b) = true) {l : List α} {m : List β}
    (hl : l.all p = true) (hm : m.all q = true) : (l.zipWith f m).all r = true := by
  induction l generalizing m with
  | nil => rfl
  | cons a l ih =>
    cases m with
    | nil => rfl
    | cons b m =>
      simp only [List.all_cons, List.zipWith_cons_cons, Bool.and_eq_true] at *
      exact ⟨hf a b hl.1 hm.1, ih hl.2 hm.2⟩

theorem Tri.all_zipWith {α β γ : Type} {p : α → Bool} {q : β → Bool} {r : γ → Bool} {f : α → β → γ}
    (hf : ∀ a b, p a = true → q b = true → r (f a b) = true) {t : Tri α} {u : Tri β}
    (ht : t.all p = true) (hu : u.all q = true) : (Tri.zipWith f t u).all r = true := by
  simp only [Tri.all, Bool.and_eq_true] at ht hu ⊢
  obtain ⟨⟨htx, hty⟩, htz⟩ := ht
  obtain ⟨⟨hux, huy⟩, huz⟩ := hu
  exact ⟨⟨list_all_zipWith hf htx hux, list_all_zipWith hf hty huy⟩, list_all_zipWith hf htz huz⟩

theorem Tri.all_map_const {α β : Type} {p : β → Bool} {b : β} (hb : p b = true) (t : Tri α) :
    (t.map (fun _ => b)).all p = true := by
  simp [Tri.all, Tri.map, hb]

theorem Tri.zero_map {α : Type} (t : Tri α) : Tri.zero (t.map (fun _ => 0)) = true :=
  Tri.all_map_const (by decide) t

/-! ## Exact zeros -/

/-- The part of `QuietInv` that is about one component (R43, R263, R274). -/
structure Component.Quiet (v : Component) : Prop where
  disabled : v.state = .disabled → Tri.zero v.current = true ∧ Tri.zero v.preclipped = true ∧
    Tri.zero v.applied = true ∧ anyFlag v.clipWarn = false
  target : v.state = .disabling ∨ v.state = .disabled → Tri.zero v.target = true
  offset : Tri.zero v.offset = true

theorem quietInv_iff (s : State) :
    QuietInv s ↔ (∀ k, (s.force.fc.get k).Quiet) ∧ ∀ b, b ∈ s.safety.trig → b = false :=
  ⟨fun ⟨hd, ht, ho, htrig⟩ => ⟨fun k => ⟨hd k, ht k, ho k⟩, htrig⟩,
    fun ⟨hfc, htrig⟩ => ⟨fun k => (hfc k).disabled, fun k => (hfc k).target, fun k => (hfc k).offset, htrig⟩⟩

theorem Component.quiet_init (c : Cfg) : (Component.init c).Quiet :=
  ⟨nofun, fun _ => Tri.zero_fill _, Tri.zero_fill _⟩

/-- A component that neither ramps down nor rests is bound by its offset alone. -/
theorem Component.Quiet.of_running {v : Component} (hs : v.state = .initialising ∨ v.state = .enabled)
    (ho : Tri.zero v.offset = true) : v.Quiet where
  disabled h := by simp [h] at hs
  target h := by rcases hs with hs | hs <;> simp [hs] at h
  offset := ho

/-- The ramp starts with zero targets (R263), and ends with zeros in every register (R274). -/
theorem CompWrite.quiet {c : Cfg} {k : Comp} {v w : Component} (h : CompWrite c k v w) (hv : v.Quiet) :
    w.Quiet := by
  cases h with
  | enable => exact .of_running (.inr rfl) hv.offset
  | disable =>
    rcases disable_cases v with ⟨_, hd⟩ | ⟨_, hd⟩
    · rw [hd]
      exact ⟨nofun, fun _ => Tri.zero_map _, hv.offset⟩
    · rwa [hd]
  | apply => exact .of_running (.inr rfl) hv.offset
  | rampEnd hstate =>
    exact ⟨fun _ => ⟨Tri.zero_map _, Tri.zero_map _, Tri.zero_map _, anyFlag_map_false _⟩,
      fun _ => hv.target (.inl hstate), hv.offset⟩
  | update hstate => exact ⟨fun h => absurd h hstate, hv.target, hv.offset⟩

theorem RegWrite.trig {s u : State} (h : RegWrite s u) (hs : ∀ b, b ∈ s.safety.trig → b = false) :
    ∀ b, b ∈ u.safety.trig → b = false := by
  cases h with
  | latch _ b r =>
    rw [notify_safety]
    exact hs
  | clearFaults => exact fun b hb => List.eq_of_mem_replicate hb
  | _ => exact hs

/-- The components are written by the writes of a component alone. -/
theorem RegWrite.fc_cases {s u : State} (h : RegWrite s u) :
    u.force.fc = s.force.fc ∨
      ∃ k v, CompWrite s.cfg k (s.force.fc.get k) v ∧ u.force.fc = s.force.fc.set k v := by
  cases h with
  | comp k hv => exact .inr ⟨k, _, hv, rfl⟩
  | latch _ b r => exact .inl (congrArg ForceUnit.fc (State.notify_force s _ b r))
  | _ => exact .inl rfl

/-- What every write of a component keeps, every register write keeps of all components. -/
theorem RegWrite.forall_comp {p : Component → Prop} {s u : State} (h : RegWrite s u)
    (hp : ∀ {k v w}, CompWrite s.cfg k v w → p v → p w) (hs : ∀ k, p (s.force.fc.get k)) :
    ∀ k, p (u.force.fc.get k) := by
  rcases h.fc_cases with heq | ⟨k, v, hv, heq⟩
  · rwa [heq]
  · rw [heq]
    exact PerComp.forall_get_set k hs (hp hv (hs k))

theorem quietInv_init {s : State} {c : Cfg} (hf : s.force = ForceUnit.init c)
    (hs : s.safety = SafetyUnit.init c) : QuietInv s := by
  rw [quietInv_iff, hf, hs]
  refine ⟨fun k => ?_, fun b hb => List.eq_of_mem_replicate hb⟩
  rw [ForceUnit.init, PerComp.get_pure]
  exact Component.quiet_init c

theorem quietInv_stepKeeps : StepKeeps (fun _ => True) QuietInv where
  ports _ _ h := h
  write _ h hw := by
    obtain ⟨hfc, htrig⟩ := (quietInv_iff _).mp h
    exact (quietInv_iff _).mpr ⟨hw.forall_comp CompWrite.quiet hfc, hw.trig htrig⟩
  mapBuilt h _ := h
  loaded _ _ := quietInv_init rfl rfl
  telemetry _ h := h
  reset _ := quietInv_reset

/-! ## Finite forces -/

/-- The part of `FiniteInv` that is about one component (R267). -/
def Component.Finite (v : Component) : Prop :=
  v.target.all f32IsFinite = true ∧ v.current.all f32IsFinite = true ∧
    v.preclipped.all f32IsFinite = true ∧ v.applied.all f32IsFinite = true

theorem finiteInv_iff (s : State) : FiniteInv s ↔ ∀ k, (s.force.fc.get k).Finite := Iff.rfl

theorem Tri.finite_map_zero {α : Type} (t : Tri α) : (t.map (fun _ => (0 : F32))).all f32IsFinite = true :=
  Tri.all_map_const (by decide) t

theorem Component.finite_init (c : Cfg) : (Component.init c).Finite := by
  have hfill : (Tri.fill c.plant (0 : F32)).all f32IsFinite = true := Tri.all_fill (by decide) _
  exact ⟨hfill, hfill, hfill, hfill⟩

theorem limitsOk_finite {c : PlantCfg} {l : Limits} (h : limitsOk c l = true) :
    l.low.all f32IsFinite = true ∧ l.high.all f32IsFinite = true := by
  simp only [limitsOk, Bool.and_eq_true] at h
  obtain ⟨⟨⟨_, hlow⟩, hhigh⟩, _⟩ := h
  exact ⟨hlow, hhigh⟩

/-- A finite triple coerced into accepted limits is finite. -/
theorem clampTri_finite {c : PlantCfg} {l : Limits} {t : Tri F32} (hl : limitsOk c l = true)
    (ht : t.all f32IsFinite = true) : (clampTri l t).all f32IsFinite = true := by
  obtain ⟨hlow, hhigh⟩ := limitsOk_finite hl
  have hpairs : (Tri.zipWith Prod.mk l.low l.high).all
      (fun b => f32IsFinite b.1 && f32IsFinite b.2) = true :=
    Tri.all_zipWith (fun a b ha hb => by rw [ha, hb]; rfl) hlow hhigh
  refine Tri.all_zipWith (fun v b hv hb => ?_) ht hpairs
  obtain ⟨hb1, hb2⟩ := (Bool.and_eq_true _ _).mp hb
  exact f32Clamp_isFinite hv hb1 hb2

theorem cfgOk_maxRate {c : Cfg} (h : cfgOk c = true) (k : Comp) :
    f32IsFinite (c.force.maxRate.get k) = true ∧ f32Lt 0 (c.force.maxRate.get k) = true := by
  simp only [cfgOk, forceOk, Bool.and_eq_true, and_assoc] at h
  obtain ⟨_, _, _, _, hrate, _⟩ := h
  exact (Bool.and_eq_true _ _).mp (PerComp.all_get hrate k)

/-- The walk goes between finite values (`f32Step_between`). -/
theorem stepTri_finite {cur tgt : Tri F32} {r : F32} (hr : f32IsFinite r = true) (hpos : f32Lt 0 r = true)
    (hcur : cur.all f32IsFinite = true) (htgt : tgt.all f32IsFinite = true) :
    (Tri.zipWith (fun x t => f32Step x t r) cur tgt).all f32IsFinite = true :=
  Tri.all_zipWith (p := f32IsFinite) (q := f32IsFinite)
    (fun _ _ hx ht => f32Step_isFinite hx ht hr hpos) hcur htgt

theorem Component.finite_walk {v : Component} {r : F32} (h : v.Finite) (hr : f32IsFinite r = true)
    (hpos : f32Lt 0 r = true) : (v.walk r).Finite := by
  obtain ⟨htgt, hcur, hrest⟩ := h
  exact ⟨htgt, stepTri_finite hr hpos hcur htgt, hrest⟩

theorem Component.finite_clip {c : PlantCfg} {v : Component} {l : Limits} (h : v.Finite)
    (hl : limitsOk c l = true) : (v.clip l).Finite := by
  obtain ⟨htgt, hcur, _⟩ := h
  have happ := clampTri_finite hl hcur
  exact ⟨htgt, happ, hcur, happ⟩

theorem CompWrite.finite {c : Cfg} {k : Comp} {v w : Component} (hok : cfgOk c = true)
    (h : CompWrite c k v w) (hv : v.Finite) : w.Finite := by
  have hwalk : (v.walk (c.force.maxRate.get k)).Finite :=
    Component.finite_walk hv (cfgOk_maxRate hok k).1 (cfgOk_maxRate hok k).2
  cases h with
  | enable => exact hv
  | disable =>
    rcases disable_cases v with ⟨_, hd⟩ | ⟨_, hd⟩
    · rw [hd]
      exact ⟨Tri.finite_map_zero _, hv.2⟩
    · rwa [hd]
  | apply t ht => exact ⟨((Bool.and_eq_true _ _).mp ht).2, hv.2⟩
  | rampEnd =>
    exact ⟨hv.1, Tri.finite_map_zero _, Tri.finite_map_zero _, Tri.finite_map_zero _⟩
  | update => exact Component.finite_clip hwalk ((cfgOk_limits hok).1 k)

theorem finiteInv_stepKeeps : StepKeeps (fun c => cfgOk c = true) FiniteInv where
  ports _ _ h := h
  write hok h hw := hw.forall_comp (p := Component.Finite) (CompWrite.finite hok) h
  mapBuilt h _ := h
  loaded c _ k := (PerComp.get_pure (Component.init c) k).symm ▸ Component.finite_init c
  telemetry _ h := h
  reset _ := finiteInv_reset

/-- Settles O15: each write of a component keeps its zeros and, under a well-formed configuration, its
finiteness; no other write touches the components. -/
theorem componentsKept : Obligations.ComponentsKept := by
  unfold Obligations.ComponentsKept
  exact fun s t hstep => ⟨fun hs => quietInv_stepKeeps.of_step (fun _ => trivial) hs hstep,
    fun hcfg hs => finiteInv_stepKeeps.of_step hcfg.2 hs hstep⟩

end Sys2Proof.Machine

/-! # The operations on components (spec/43_force_pipeline.md R262, R263, R268, R270, R274, R276) -/

namespace Sys2Proof.Machine

-- One proof after another, as in Tests/Slice0.lean: in many threads at once they take too much memory.
set_option Elab.async false

section

variable {s : State} (hs : s.ready = true)

include hs

theorem onComp_outside {b : Byte} (hb : 8 < b.toNat) (f : Comp → State) :
    onComp b s f = .next (s.respond .badOperand .none) := by
  rw [onComp, whenReady_ready hs, (Comp.ofByte_eq_none_iff b).mpr hb]
  rfl

theorem onComp_number (c : Comp) (f : Comp → State) :
    onComp (BitVec.ofNat 8 c.number) s f = .next ((f c).respond .ok .none) := by
  rw [onComp, whenReady_ready hs, Comp.ofByte_number]
  rfl

theorem exec_fcUpdate (c : Comp) : exec (.fcUpdate (BitVec.ofNat 8 c.number)) s =
    .next ((s.updateComp c).respond .ok .none) := onComp_number hs c _

theorem execFcApply_outside {b : Byte} (hb : 8 < b.toNat) (x y z : List F32) :
    execFcApply b x y z s = .next (s.respond .badOperand .none) := by
  rw [execFcApply, whenReady_ready hs, (Comp.ofByte_eq_none_iff b).mpr hb]
  rfl

theorem execFcApply_accepted (c : Comp) {x y z : List F32} (h : targetsOk s.cfg ⟨x, y, z⟩ = true) :
    execFcApply (BitVec.ofNat 8 c.number) x y z s =
      .next ((s.setComp c { s.force.fc.get c with target := ⟨x, y, z⟩, state := .enabled }).respond .ok
        .none) := by
  rw [execFcApply, whenReady_ready hs, Comp.ofByte_number]
  exact if_pos h

theorem execFcApply_refused (c : Comp) {x y z : List F32} (h : ¬ targetsOk s.cfg ⟨x, y, z⟩ = true) :
    execFcApply (BitVec.ofNat 8 c.number) x y z s = .next (s.respond .badOperand .none) := by
  rw [execFcApply, whenReady_ready hs, Comp.ofByte_number]
  exact if_neg h

end

/-! ## Disable and zero -/

theorem PerComp.set_get_self {α : Type} (p : PerComp α) (c : Comp) : p.set c (p.get c) = p := by
  cases c <;> rfl

theorem setComp_get_self (s : State) (c : Comp) : s.setComp c (s.force.fc.get c) = s := by
  rw [State.setComp, PerComp.set_get_self]

theorem disableComp_of_running {s : State} {c : Comp}
    (h : (s.force.fc.get c).state = .initialising ∨ (s.force.fc.get c).state = .enabled) :
    s.disableComp c = s.setComp c { s.force.fc.get c with
      target := (s.force.fc.get c).target.map (fun _ => 0), state := .disabling } := by
  rcases disable_cases (s.force.fc.get c) with ⟨_, hd⟩ | ⟨hr, _⟩
  · rw [State.disableComp, hd]
  · rcases h with h | h <;> simp [h] at hr

/-- On a ramping or resting component `FC_DISABLE` does nothing (R263). -/
theorem disableComp_of_resting {s : State} {c : Comp}
    (h : (s.force.fc.get c).state = .disabling ∨ (s.force.fc.get c).state = .disabled) :
    s.disableComp c = s := by
  rcases disable_cases (s.force.fc.get c) with ⟨hr, _⟩ | ⟨_, hd⟩
  · rcases h with h | h <;> simp [h] at hr
  · rw [State.disableComp, hd, setComp_get_self]

/-! ## Apply -/

/-- When `FC_APPLY` accepts its arrays (R268). -/
theorem targetsOk_iff (c : Cfg) (x y z : List F32) : targetsOk c ⟨x, y, z⟩ = true ↔
    (x.length = c.plant.nX ∧ y.length = c.plant.nY ∧ z.length = c.plant.nFA) ∧
      ∀ q, q ∈ x ++ y ++ z → f32IsFinite q = true := by
  simp only [targetsOk, Tri.all, Bool.and_eq_true, beq_iff_eq, ← List.all_append, List.all_eq_true,
    and_assoc]

/-- Settles O37: the equation of each operation, for a number above 8 and for a component's own. -/
theorem componentOperations : Obligations.ComponentOperations := by
  unfold Obligations.ComponentOperations
  refine fun s hs => ⟨fun b hb => ⟨onComp_outside hs hb _, onComp_outside hs hb _, onComp_outside hs hb _,
    execFcApply_outside hs hb⟩, fun c => ⟨onComp_number hs c _, fun hrun => ?_, fun hrest => ?_,
    fun x y z => ⟨fun hx hy hz hfin => ?_, fun hbad => ?_⟩⟩⟩
  · rw [← disableComp_of_running hrun]
    exact ⟨onComp_number hs c _, onComp_number hs c _⟩
  · have hnone : onComp (BitVec.ofNat 8 c.number) s (fun k => s.disableComp k) =
        .next (s.respond .ok .none) := by
      rw [onComp_number hs, disableComp_of_resting hrest]
    exact ⟨hnone, hnone⟩
  · exact execFcApply_accepted hs c ((targetsOk_iff s.cfg x y z).mpr ⟨⟨hx, hy, hz⟩, hfin⟩)
  · refine execFcApply_refused hs c fun hok => ?_
    obtain ⟨⟨hx, hy, hz⟩, hfin⟩ := (targetsOk_iff s.cfg x y z).mp hok
    rcases hbad with h | h | h | ⟨q, hq, h⟩
    · exact h hx
    · exact h hy
    · exact h hz
    · exact Bool.false_ne_true (h.symm.trans (hfin q hq))

/-! ## Update -/

theorem updateComp_of_disabled {s : State} {c : Comp} (h : (s.force.fc.get c).state = .disabled) :
    s.updateComp c = s := if_pos h

theorem updateComp_of_rampEnd {s : State} {c : Comp} (h : (s.force.fc.get c).state = .disabling)
    (hz : ((s.force.fc.get c).walk (s.cfg.force.maxRate.get c)).nearZero s.cfg.force.nearZeroEps = true) :
    s.updateComp c = s.setComp c ((s.force.fc.get c).walk (s.cfg.force.maxRate.get c)).finishRamp := by
  rcases updateComp_cases s c with ⟨hd, _⟩ | ⟨_, _, heq⟩ | ⟨_, hn, _⟩
  · rw [h] at hd
    cases hd
  · exact heq
  · exact absurd ⟨h, hz⟩ hn

theorem updateComp_of_walking {s : State} {c : Comp} (h : (s.force.fc.get c).state ≠ .disabled)
    (hn : ¬ ((s.force.fc.get c).state = .disabling ∧
      ((s.force.fc.get c).walk (s.cfg.force.maxRate.get c)).nearZero s.cfg.force.nearZeroEps = true)) :
    s.updateComp c = s.postUpdate c ((s.force.fc.get c).walk (s.cfg.force.maxRate.get c)) := by
  rcases updateComp_cases s c with ⟨hd, _⟩ | ⟨hr, hz, _⟩ | ⟨_, _, heq⟩
  · exact absurd hd h
  · exact absurd ⟨hr, hz⟩ hn
  · exact heq

/-- The `Clip` event, where some flag is set, is all that a stage logs (R383). -/
theorem logClip_eq (s : State) (k : Nat) (flags : Tri Bool) :
    s.logClip k flags = { s with log := if anyFlag flags = true then s.log ++ [.clip k flags] else s.log } := by
  unfold State.logClip
  split <;> rfl

/-- Settles O38: the three cases of `updateComp_cases`. -/
theorem fcUpdate : Obligations.FcUpdate := by
  unfold Obligations.FcUpdate
  refine fun s hs => ⟨fun b hb => onComp_outside hs hb _, fun c => ⟨fun h => ?_, fun h hz => ?_, fun h => ?_⟩⟩
  · rw [exec_fcUpdate hs, updateComp_of_disabled h]
  · rw [exec_fcUpdate hs, updateComp_of_rampEnd h hz]
    rfl
  · have hactive : (s.force.fc.get c).state ≠ .disabled := by
      rcases h with h | h | ⟨h, _⟩ <;> simp [h]
    rw [exec_fcUpdate hs, updateComp_of_walking hactive, State.postUpdate, logClip_eq]
    · rfl
    · rintro ⟨hd, hz⟩
      rcases h with h | h | ⟨_, hfar⟩
      · simp [h] at hd
      · simp [h] at hd
      · exact Bool.false_ne_true (hfar.symm.trans hz)

end Sys2Proof.Machine

/-! # UPDATE_APPLIED and the sum of the final stage (spec/43_force_pipeline.md R276, R278) -/

namespace Sys2Proof.Machine

-- One proof after another, as in Tests/Slice0.lean: in many threads at once they take too much memory.
set_option Elab.async false

/-! ## An update reads no response and writes one component -/

theorem notify_respond (s : State) (st : Status) (d : RspData) (k : FaultCode) (b : Bool) (r : List Byte) :
    (s.respond st d).notify k b r = (s.notify k b r).respond st d := by
  unfold State.notify
  rw [State.respond_cfg, State.respond_safety]
  split <;> rfl

theorem postUpdate_respond (s : State) (st : Status) (d : RspData) (c : Comp) (v : Component) :
    (s.respond st d).postUpdate c v = (s.postUpdate c v).respond st d := by
  unfold State.postUpdate
  dsimp only
  rw [logClip_eq, logClip_eq, ← notify_respond]
  rfl

theorem updateComp_respond (s : State) (st : Status) (d : RspData) (c : Comp) :
    (s.respond st d).updateComp c = (s.updateComp c).respond st d := by
  rcases updateComp_cases s c with ⟨hd, h⟩ | ⟨hr, hz, h⟩ | ⟨hd, hn, h⟩
  · rw [h, updateComp_of_disabled (s := s.respond st d) hd]
  · rw [h, updateComp_of_rampEnd (s := s.respond st d) hr hz]
    rfl
  · rw [h, updateComp_of_walking (s := s.respond st d) hd hn, ← postUpdate_respond]
    rfl

theorem foldl_updateComp_respond (cs : List Comp) (s : State) (st : Status) (d : RspData) :
    cs.foldl State.updateComp (s.respond st d) = (cs.foldl State.updateComp s).respond st d := by
  induction cs generalizing s with
  | nil => rfl
  | cons c cs ih => rw [List.foldl_cons, updateComp_respond, ih, List.foldl_cons]

theorem updateComp_get_of_ne (s : State) {c k : Comp} (h : c ≠ k) :
    (s.updateComp c).force.fc.get k = s.force.fc.get k := by
  rcases updateComp_cases s c with ⟨_, heq⟩ | ⟨_, _, heq⟩ | ⟨_, _, heq⟩
  · rw [heq]
  · rw [heq, State.setComp_force, PerComp.get_set_ne _ h]
  · rw [heq, State.postUpdate, State.notify_force, State.logClip_force, State.setComp_force,
      PerComp.get_set_ne _ h]

theorem updateComp_ready (s : State) (c : Comp) : (s.updateComp c).ready = s.ready :=
  congrArg (fun p : Cfg × Bool × Bool => p.2.1 && p.2.2) (State.updateComp_config s c)

/-! ## The sequence -/

/-- `FC_UPDATE` once for each of some components: what it leaves, the response apart. -/
theorem runSeq_fcUpdates (cs : List Comp) {s : State} (hs : s.ready = true) :
    ∃ t, runSeq (cs.map (fun c => .fcUpdate (BitVec.ofNat 8 c.number))) s = .next t ∧
      t.respond .ok .none = (cs.foldl State.updateComp s).respond .ok .none := by
  induction cs generalizing s with
  | nil => exact ⟨s, rfl, rfl⟩
  | cons c cs ih =>
    obtain ⟨t, hrun, ht⟩ := ih (s := (s.updateComp c).respond .ok .none) ((updateComp_ready s c).trans hs)
    refine ⟨t, ?_, ?_⟩
    · rw [List.map_cons, runSeq, exec_fcUpdate hs]
      exact hrun
    · rw [ht, foldl_updateComp_respond]
      rfl

/-- Whether a component is active when its turn comes was settled at the start: the updates before it
are of other components. -/
theorem foldl_updateActive {cs : List Comp} (hcs : cs.Nodup) (s : State) :
    cs.foldl State.updateActive s =
      (cs.filter (fun c => (s.force.fc.get c).active)).foldl State.updateComp s := by
  induction cs generalizing s with
  | nil => rfl
  | cons c cs ih =>
    obtain ⟨hc, hcs⟩ := List.nodup_cons.mp hcs
    rw [List.foldl_cons, State.updateActive, List.filter_cons]
    split
    · have hkept : cs.filter (fun k => ((s.updateComp c).force.fc.get k).active) =
          cs.filter (fun k => (s.force.fc.get k).active) := by
        refine List.filter_congr fun k hk => ?_
        rw [updateComp_get_of_ne s (ne_of_mem_of_not_mem hk hc).symm]
      rw [ih hcs, hkept, List.foldl_cons]
    · exact ih hcs s

theorem comp_all_nodup : Comp.all.Nodup := by decide

/-- Settles O39: both are the fold of the updates over the components active at the start. -/
theorem updateAppliedIsSequence : Obligations.UpdateAppliedIsSequence := by
  unfold Obligations.UpdateAppliedIsSequence
  intro s hs
  obtain ⟨t, hrun, ht⟩ := runSeq_fcUpdates (Comp.all.filter (fun c => (s.force.fc.get c).active)) hs
  refine ⟨t, hrun, ?_⟩
  rw [ht, ← foldl_updateActive comp_all_nodup]
  exact whenReady_ready hs _

/-! ## The sum, element by element -/

/-- One more array added to a sum adds its element to the sum's. -/
theorem getElem?_zipWith_f32Add {t l : List F32} {k : Nat} {v : F32} (ht : t[k]? = some v)
    (hk : k < l.length) : (t.zipWith f32Add l)[k]? = some (f32Add v (l.getD k 0)) := by
  rw [List.getElem?_zipWith, ht, List.getElem?_eq_getElem hk, List.getD_eq_getElem l 0 hk]

/-- An element of a sum of arrays, `array` reading the array of a component. -/
theorem getElem?_foldl_zipWith {cs : List Comp} {array : Comp → List F32} {k : Nat}
    (hk : ∀ c, k < (array c).length) {t : List F32} {v : F32} (ht : t[k]? = some v) :
    (cs.foldl (fun t c => t.zipWith f32Add (array c)) t)[k]? =
      some (cs.foldl (fun v c => f32Add v ((array c).getD k 0)) v) := by
  induction cs generalizing t v with
  | nil => exact ht
  | cons c cs ih => exact ih (getElem?_zipWith_f32Add ht (hk c))

/-- A sum of triples is summed array by array. -/
theorem foldl_zipWith_tri (cs : List Comp) (v : Comp → Tri F32) (t : Tri F32) :
    cs.foldl (fun t c => Tri.zipWith f32Add t (v c)) t =
      ⟨cs.foldl (fun t c => t.zipWith f32Add (v c).x) t.x, cs.foldl (fun t c => t.zipWith f32Add (v c).y) t.y,
        cs.foldl (fun t c => t.zipWith f32Add (v c).z) t.z⟩ := by
  induction cs generalizing t with
  | nil => rfl
  | cons c cs ih => exact ih _

/-- Settles O41: every array has the length of its axis, so each element is summed by itself. -/
theorem sumByElement : Obligations.SumByElement := by
  unfold Obligations.SumByElement
  intro s k hsizes
  obtain ⟨_, _, hshaped, _⟩ := hsizes
  have hlen (c : Comp) := (Tri.shaped_iff _ _).mp (hshaped c).1
  have hzero {n : Nat} (hk : k < n) : (List.replicate n (0 : F32))[k]? = some 0 := by
    rw [List.getElem?_replicate, if_pos hk]
  dsimp only
  rw [sumActive, foldl_zipWith_tri]
  refine ⟨fun hk => ?_, fun hk => ?_, fun hk => ?_⟩
  · exact getElem?_foldl_zipWith (fun c => (hlen c).1.symm ▸ hk) (hzero hk)
  · exact getElem?_foldl_zipWith (fun c => (hlen c).2.1.symm ▸ hk) (hzero hk)
  · exact getElem?_foldl_zipWith (fun c => (hlen c).2.2.symm ▸ hk) (hzero hk)

end Sys2Proof.Machine

/-! # PROCESS_APPLIED (spec/43_force_pipeline.md R280 to R288) -/

namespace Sys2Proof.Machine

-- One proof after another, as in Tests/Slice0.lean: in many threads at once they take too much memory.
set_option Elab.async false

/-! ## The latch after some notifications (R312) -/

theorem latchFirst_nil (c : SafetyCfg) (r : ErrorReg) : latchFirst c r [] = r := by
  unfold latchFirst
  split <;> rfl

theorem latchFirst_of_latched {c : SafetyCfg} {r : ErrorReg} (h : r.code ≠ .noFault)
    (l : List (FaultCode × Bool × List Byte)) : latchFirst c r l = r := if_pos h

theorem latchFirst_cons_latches {c : SafetyCfg} {r : ErrorReg} {p : FaultCode × Bool × List Byte}
    (h : r.code = .noFault) (hp : (p.2.1 && c.faultEnabled.contains p.1) = true)
    (l : List (FaultCode × Bool × List Byte)) :
    latchFirst c r (p :: l) = ⟨p.1, p.2.2.take c.reportMax⟩ := by
  simp only [latchFirst, h, List.find?_cons, hp, ne_eq, not_true_eq_false, if_false]

theorem latchFirst_cons_skips {c : SafetyCfg} {r : ErrorReg} {p : FaultCode × Bool × List Byte}
    (h : r.code = .noFault) (hp : ¬ (p.2.1 && c.faultEnabled.contains p.1) = true)
    (l : List (FaultCode × Bool × List Byte)) : latchFirst c r (p :: l) = latchFirst c r l := by
  simp only [latchFirst, h, List.find?_cons, Bool.eq_false_iff.mpr hp]

/-- Notifications one after another. -/
theorem latchFirst_latchFirst (c : SafetyCfg) (r : ErrorReg) {k : FaultCode} (hk : k ≠ .noFault) (b : Bool)
    (t : List Byte) (l : List (FaultCode × Bool × List Byte)) :
    latchFirst c (latchFirst c r [(k, b, t)]) l = latchFirst c r ((k, b, t) :: l) := by
  by_cases h : r.code = .noFault
  · by_cases hlatch : (b && c.faultEnabled.contains k) = true
    · rw [latchFirst_cons_latches h hlatch, latchFirst_cons_latches h hlatch, latchFirst_of_latched hk]
    · rw [latchFirst_cons_skips h hlatch, latchFirst_cons_skips h hlatch, latchFirst_nil]
  · rw [latchFirst_of_latched h, latchFirst_of_latched h, latchFirst_of_latched h]

theorem notify_eq_latchFirst (s : State) (c : FaultCode) (b : Bool) (r : List Byte) :
    s.notify c b r =
      { s with safety := { s.safety with err := latchFirst s.cfg.safety s.safety.err [(c, b, r)] } } := by
  rcases notify_cases s c b r with ⟨henabled, hb, hfree, h⟩ | ⟨hnot, h⟩
  · rw [h, latchFirst_cons_latches hfree (by rw [henabled, hb]; rfl)]
  · by_cases hfree : s.safety.err.code = .noFault
    · have hskip : ¬ (b && s.cfg.safety.faultEnabled.contains c) = true := fun hp =>
        hnot ⟨((Bool.and_eq_true _ _).mp hp).2, ((Bool.and_eq_true _ _).mp hp).1, hfree⟩
      rw [h, latchFirst_cons_skips hfree hskip, latchFirst_nil]
    · rw [h, latchFirst_of_latched hfree]

/-! ## The stages -/

/-- The final stage's registers after the sum, the clip and the conversion (R278, R281, R282). -/
def finalStageOf (c : Cfg) (pre : Tri F32) : FinalStage where
  preclipped := pre
  applied := clampTri c.force.finalLimits pre
  clipWarn := clipFlags pre (clampTri c.force.finalLimits pre)
  anyClip := anyFlag (clipFlags pre (clampTri c.force.finalLimits pre))
  primarySet := ((List.range c.plant.nFA).map (setpoints c (clampTri c.force.finalLimits pre))).map Prod.fst
  secondarySet := ((List.range c.plant.nFA).map (setpoints c (clampTri c.force.finalLimits pre))).map Prod.snd

/-- The stages before the checks (R280 to R283). -/
theorem computeResultant_stages (s : State) :
    s.sumForces.finalClip.convert.computeResultant =
      let v := finalStageOf s.cfg (sumActive s.cfg s.force.fc)
      { s with
        force := { s.force with fin := v, res := resultantOf s.cfg v.preclipped }
        safety := { s.safety with
          err := latchFirst s.cfg.safety s.safety.err
            [(.forceClipFinal, v.anyClip, reportOf .forceClipFinal)] }
        log := if v.anyClip = true then s.log ++ [.clip 9 v.clipWarn] else s.log } := by
  unfold State.finalClip
  dsimp only
  rw [logClip_eq, notify_eq_latchFirst]
  rfl

/-- The four checks of the mirror as notifications, in their order (R288): `n` is the count of moment
warnings that the first of them has just written. -/
def mirrorChecks (s : State) (n : Nat) : List (FaultCode × Bool × List Byte) :=
  let f := s.cfg.force
  let z := s.force.fin.preclipped.z
  [(.mirrorMoment, momentBeyond s.force.res f.momentFault || decide (f.momentWarnCount < n),
      reportOf .mirrorMoment),
    (.nearNeighbor, anyNeighbor s.cfg.plant.nFA f.nearAbs f.nearRel z f.nearNbr, reportOf .nearNeighbor),
    (.mirrorWeight, f32Lt f.weightTol
      (f32Abs (f32Sub s.force.res.fz (expectedWeight s.cfg.tables s.elev s.raise.pct))),
      reportOf .mirrorWeight),
    (.farNeighbor, anyNeighbor s.cfg.plant.nFA f.farAbs f.farRel z f.farNbr, reportOf .farNeighbor)]

/-- The checks write the count and the latch (R284 to R288). -/
theorem checkFar_stages (s : State) :
    s.checkMoments.checkNear.checkWeight.checkFar =
      let n := momentCount s.cfg.force s.force.res s.force.momentWarnCnt
      { s with
        force := { s.force with momentWarnCnt := n }
        safety := { s.safety with
          err := latchFirst s.cfg.safety s.safety.err (mirrorChecks s n) } } := by
  unfold mirrorChecks
  dsimp only
  rw [State.checkFar, State.checkWeight, State.checkNear, State.checkMoments]
  simp only [notify_eq_latchFirst]
  rw [latchFirst_latchFirst _ _ (by decide) _ _, latchFirst_latchFirst _ _ (by decide) _ _,
    latchFirst_latchFirst _ _ (by decide) _ _]
  rfl


/-- All stages of `PROCESS_APPLIED` (R280, R288). -/
theorem processForces_eq (s : State) :
    s.processForces =
      let v := finalStageOf s.cfg (sumActive s.cfg s.force.fc)
      let r := resultantOf s.cfg v.preclipped
      let n := momentCount s.cfg.force r s.force.momentWarnCnt
      { s with
        force := { s.force with fin := v, res := r, momentWarnCnt := n }
        safety := { s.safety with
          err := latchFirst s.cfg.safety s.safety.err
            ((.forceClipFinal, v.anyClip, reportOf .forceClipFinal) ::
              mirrorChecks { s with force := { s.force with fin := v, res := r } } n) }
        log := if v.anyClip = true then s.log ++ [.clip 9 v.clipWarn] else s.log } := by
  rw [State.processForces, checkFar_stages, computeResultant_stages]
  dsimp only
  rw [latchFirst_latchFirst _ _ (by decide)]
  rfl

/-! ## The resultant (R283) -/

/-- A quantity summed over the force actuators in ascending order from +0.0. -/
def sumOver (c : Cfg) (g : Nat → F32) : F32 := (List.range c.plant.nFA).foldl (fun t i => f32Add t (g i)) 0

/-- A lever arm's share of a moment: `p` by `f` less `q` by `g`. -/
def lever (p f q g : F32) : F32 := f32Sub (f32Mul p f) (f32Mul q g)

/-- The six sums of R283, over `pre`. -/
def resultantSums (c : Cfg) (pre : Tri F32) : Resultant :=
  let pos := fun i => c.force.pos.getD i ⟨0, 0, 0⟩
  let f := actuatorForces c pre
  { fx := sumOver c (fun i => (f i).1)
    fy := sumOver c (fun i => (f i).2.1)
    fz := sumOver c (fun i => (f i).2.2)
    mx := sumOver c (fun i => lever (pos i).y (f i).2.2 (pos i).z (f i).2.1)
    my := sumOver c (fun i => lever (pos i).z (f i).1 (pos i).x (f i).2.2)
    mz := sumOver c (fun i => lever (pos i).x (f i).2.1 (pos i).y (f i).1)
    magnitude := 0 }

/-- Each register of the resultant is summed by itself. -/
theorem foldl_addActuator (c : Cfg) (pre : Tri F32) (l : List Nat) (r : Resultant) :
    l.foldl (addActuator c pre) r =
      let pos := fun i => c.force.pos.getD i ⟨0, 0, 0⟩
      let f := actuatorForces c pre
      { fx := l.foldl (fun t i => f32Add t (f i).1) r.fx
        fy := l.foldl (fun t i => f32Add t (f i).2.1) r.fy
        fz := l.foldl (fun t i => f32Add t (f i).2.2) r.fz
        mx := l.foldl (fun t i => f32Add t (lever (pos i).y (f i).2.2 (pos i).z (f i).2.1)) r.mx
        my := l.foldl (fun t i => f32Add t (lever (pos i).z (f i).1 (pos i).x (f i).2.2)) r.my
        mz := l.foldl (fun t i => f32Add t (lever (pos i).x (f i).2.1 (pos i).y (f i).1)) r.mz
        magnitude := r.magnitude } := by
  induction l generalizing r with
  | nil => rfl
  | cons i l ih => exact ih (addActuator c pre r i)

theorem resultantOf_eq (c : Cfg) (pre : Tri F32) :
    resultantOf c pre = (resultantSums c pre).withMagnitude := by
  rw [resultantOf, foldl_addActuator]
  rfl

/-! ## The neighbours (R285, R287) -/

theorem neighborFlag_of_nil {abs rel : F32} {z : List F32} {nbr : List (List Nat)} {i : Nat}
    (h : nbr.getD i [] = []) : neighborFlag abs rel z nbr i = false := by
  rw [neighborFlag, h]

theorem neighborFlag_of_cons {abs rel : F32} {z : List F32} {nbr : List (List Nat)} {i j : Nat}
    {l : List Nat} (h : nbr.getD i [] = j :: l) :
    neighborFlag abs rel z nbr i =
      f32Lt (f32Add abs (f32Mul rel (f32Abs (average z (j :: l)))))
        (f32Abs (f32Sub (z.getD i 0) (average z (j :: l)))) := by
  rw [neighborFlag, h]

/-! ## The instruction -/

theorem exec_processApplied_early {s : State} (hs : s.ready = true) (he : s.elevValid = false) :
    exec .processApplied s = .next (s.respond .notConfigured .none) := by
  change execProcessApplied s = _
  rw [execProcessApplied, whenReady_ready hs, he]
  rfl

theorem exec_processApplied {s : State} (hs : s.ready = true) (he : s.elevValid = true) :
    exec .processApplied s = .next (s.processForces.respond .ok .none) := by
  change execProcessApplied s = _
  rw [execProcessApplied, whenReady_ready hs, he]
  rfl

/-- Settles O40: the stages are `processForces_eq`, the resultant `resultantOf_eq`. -/
theorem processApplied : Obligations.ProcessApplied := by
  unfold Obligations.ProcessApplied
  intro s hs f n pre applied flags axis sp fx fy fz pos sum mx my mz square res beyond count outside checks
  have houtside (abs rel : F32) (nbr : List (List Nat)) :
      anyNeighbor n abs rel pre.z nbr = outside abs rel nbr := by
    refine congrArg (List.any (List.range n)) (funext fun i => ?_)
    cases h : nbr.getD i [] with
    | nil => exact neighborFlag_of_nil h
    | cons j l => exact neighborFlag_of_cons h
  have hchecks : (.forceClipFinal, anyFlag (clipFlags pre applied), reportOf .forceClipFinal) ::
      mirrorChecks { s with force := { s.force with fin := finalStageOf s.cfg pre, res := res } } count =
      checks.map (fun p => (p.1, p.2, reportOf p.1)) := by
    unfold mirrorChecks
    dsimp only [finalStageOf]
    rw [houtside, houtside]
    rfl
  refine ⟨exec_processApplied_early hs, fun he => ?_⟩
  rw [exec_processApplied hs he, processForces_eq, ← hchecks]
  dsimp only [finalStageOf]
  rw [resultantOf_eq]
  rfl

end Sys2Proof.Machine

/-! # The safety controller's operations (spec/44_safety.md R312, R313, R322 to R324) -/

namespace Sys2Proof.Machine

-- One proof after another, as in Tests/Slice0.lean: in many threads at once they take too much memory.
set_option Elab.async false

/-! ## `NOTIFY` -/

theorem notifyCode_eq_none_iff (b : Byte) : notifyCode b = none ↔ b.toNat = 0 ∨ 21 < b.toNat := by
  revert b; decide

/-- Every fault's own number names it (R384). -/
theorem notifyCode_code {c : FaultCode} (hc : c ≠ .noFault) :
    notifyCode (BitVec.ofNat 8 c.code) = some c := by
  cases c
  case noFault => exact absurd rfl hc
  all_goals rfl

theorem notify_latches {s : State} {c : FaultCode} (henabled : c ∈ s.cfg.safety.faultEnabled)
    (hfree : s.safety.err.code = .noFault) (r : List Byte) :
    s.notify c true r =
      { s with safety := { s.safety with err := ⟨c, r.take s.cfg.safety.reportMax⟩ } } := by
  rcases notify_cases s c true r with ⟨_, _, _, h⟩ | ⟨hnot, _⟩
  · exact h
  · exact absurd ⟨List.contains_iff_mem.mpr henabled, rfl, hfree⟩ hnot

theorem notify_skips {s : State} {c : FaultCode} {b : Bool}
    (h : b = false ∨ c ∉ s.cfg.safety.faultEnabled ∨ s.safety.err.code ≠ .noFault) (r : List Byte) :
    s.notify c b r = s := by
  rcases notify_cases s c b r with ⟨henabled, hb, hfree, _⟩ | ⟨_, heq⟩
  · rcases h with h | h | h
    · rw [hb] at h
      cases h
    · exact absurd (List.contains_iff_mem.mp henabled) h
    · exact absurd hfree h
  · exact heq

section

variable {s : State} (hs : s.ready = true)

include hs

theorem exec_notify_outside {b : Byte} (hb : b.toNat = 0 ∨ 21 < b.toNat) (flag : Bool) (r : List Byte) :
    exec (.notify b flag r) s = .next (s.respond .badOperand .none) := by
  have hexec : exec (.notify b flag r) s = execNotify b flag r s := rfl
  rw [hexec, execNotify, whenReady_ready hs, (notifyCode_eq_none_iff b).mpr hb]
  rfl

theorem exec_notify {c : FaultCode} (hc : c ≠ .noFault) (flag : Bool) (r : List Byte) :
    exec (.notify (BitVec.ofNat 8 c.code) flag r) s = .next ((s.notify c flag r).respond .ok .none) := by
  have hexec : exec (.notify (BitVec.ofNat 8 c.code) flag r) s =
      execNotify (BitVec.ofNat 8 c.code) flag r s := rfl
  rw [hexec, execNotify, whenReady_ready hs, notifyCode_code hc]
  rfl

end

/-- Settles O43: the operand's codes are `notifyCode_eq_none_iff`, the two cases those of `notify`. -/
theorem notifyLatches : Obligations.NotifyLatches := by
  unfold Obligations.NotifyLatches
  refine fun s flag report hs => ⟨fun b hb => exec_notify_outside hs hb flag report, fun c hc =>
    ⟨fun hflag henabled hfree => ?_, fun hskip => ?_⟩⟩
  · rw [exec_notify hs hc, hflag, notify_latches henabled hfree]
  · rw [exec_notify hs hc, notify_skips hskip]

/-! ## Notifications one after another -/

theorem notify_ready (s : State) (c : FaultCode) (b : Bool) (r : List Byte) :
    (s.notify c b r).ready = s.ready := by
  rw [State.ready, State.notify_cfgLoaded, State.notify_mapBuilt, State.ready]

/-- An operation of a sequence that answered `OK` hands on to the next (R188). -/
theorem runSeq_cons {i : Instr} {s u : State} {d : RspData} (h : exec i s = .next (u.respond .ok d))
    (l : List Instr) : runSeq (i :: l) s = runSeq l (u.respond .ok d) := by
  rw [runSeq, h]
  rfl

/-- `NOTIFY` once for each of some faults: what it leaves, the response apart. -/
theorem runSeq_notifies {l : List (FaultCode × Bool × List Byte)} (hl : ∀ p, p ∈ l → p.1 ≠ .noFault)
    {s : State} (hs : s.ready = true) :
    ∃ t, runSeq (l.map (fun p => .notify (BitVec.ofNat 8 p.1.code) p.2.1 p.2.2)) s = .next t ∧
      { t with rsp := s.rsp } =
        { s with safety := { s.safety with err := latchFirst s.cfg.safety s.safety.err l } } := by
  induction l generalizing s with
  | nil => exact ⟨s, rfl, by rw [latchFirst_nil]⟩
  | cons p l ih =>
    obtain ⟨c, b, r⟩ := p
    obtain ⟨hc, hl⟩ := List.forall_mem_cons.mp hl
    obtain ⟨t, hrun, ht⟩ := ih hl (s := (s.notify c b r).respond .ok .none) ((notify_ready s c b r).trans hs)
    refine ⟨t, (runSeq_cons (exec_notify hs hc b r) _).trans hrun, ?_⟩
    rw [notify_eq_latchFirst] at ht
    rw [← latchFirst_latchFirst s.cfg.safety s.safety.err hc b r l]
    exact congrArg (fun u : State => { u with rsp := s.rsp }) ht

/-- Settles O44, by induction over the notifications. -/
theorem firstFaultWins : Obligations.FirstFaultWins := by
  unfold Obligations.FirstFaultWins
  exact fun s l hs hl => runSeq_notifies hl hs

/-! ## The verdict and the clears -/

theorem winClear_eq_map (w : List Bool) : winClear w = w.map (fun _ => false) := List.map_const'.symm

/-- Settles O48: the entry of a latched fault, the narrow clear, the end of its condition. -/
theorem checkSafetyAndClears : Obligations.CheckSafetyAndClears := by
  unfold Obligations.CheckSafetyAndClears
  refine fun s k hs => ⟨fun hfree => ?_, fun hlatched => ?_, whenReady_ready hs _, ?_⟩
  · exact (whenReady_ready hs _).trans (if_pos hfree)
  · exact (whenReady_ready hs _).trans (if_neg hlatched)
  · have hclear : winClear = fun w => w.map (fun _ => false) := funext winClear_eq_map
    have hexec : exec .clearErrorCode s = .next (s.clearFaults.respond .ok .none) := whenReady_ready hs _
    rw [hexec, State.clearFaults, hclear]
    rfl

/-! ## `SETTINGS_LOAD` -/

/-- What keeps configuration state from being written (R95, R326). -/
theorem configIdle_of_busy {s : State} (h : (∃ n, (s.frame.tx.get n).opened = true) ∨
    s.raise.rstate = .running ∨ s.raise.rstate = .paused ∨ s.safety.err.code ≠ .noFault) :
    s.configIdle = false := by
  refine Bool.eq_false_iff.mpr fun hidle => ?_
  obtain ⟨hclosed, hrest, hfree⟩ := (configIdle_iff s).mp hidle
  rcases h with ⟨n, hopen⟩ | hrun | hpaused | hlatched
  · exact Bool.false_ne_true ((hclosed n).symm.trans hopen)
  · simp [hrun] at hrest
  · simp [hpaused] at hrest
  · exact hlatched hfree

theorem exec_settingsLoad_busy {s : State} (h : s.configIdle = false) (c : Cfg) :
    exec (.settingsLoad c) s = .next (s.respond .badState .none) := by
  have hexec : exec (.settingsLoad c) s = execSettingsLoad c s := rfl
  rw [hexec, execSettingsLoad, h]
  rfl

theorem exec_settingsLoad_refused {s : State} (h : s.configIdle = true) {c : Cfg} (hc : cfgOk c = false) :
    exec (.settingsLoad c) s = .next (s.respond .badConfig .none) := by
  have hexec : exec (.settingsLoad c) s = execSettingsLoad c s := rfl
  rw [hexec, execSettingsLoad, h, hc]
  rfl

theorem exec_settingsLoad_accepted {s : State} (h : s.configIdle = true) {c : Cfg} (hc : cfgOk c = true) :
    exec (.settingsLoad c) s = .next ((s.loadCfg c).respond .ok .none) := by
  have hexec : exec (.settingsLoad c) s = execSettingsLoad c s := rfl
  rw [hexec, execSettingsLoad, h, hc]
  rfl

/-- Settles O49: the two checks in order, then `loadCfg`. -/
theorem settingsLoad : Obligations.SettingsLoad := by
  unfold Obligations.SettingsLoad
  refine fun s c => ⟨fun hbusy => exec_settingsLoad_busy (configIdle_of_busy hbusy) c,
    fun hclosed hrest hfree => ?_⟩
  have hidle := (configIdle_iff s).mpr ⟨hclosed, hrest, hfree⟩
  exact ⟨exec_settingsLoad_refused hidle, exec_settingsLoad_accepted hidle⟩

end Sys2Proof.Machine

/-! # The windowed notifiers (spec/44_safety.md R314, R316 to R319) -/

namespace Sys2Proof

theorem modifyAt_eq_set {α : Type} {l : List α} {i : Nat} (h : i < l.length) (f : α → α) (d : α) :
    modifyAt l i f = l.set i (f (l.getD i d)) := by
  induction l generalizing i with
  | nil => exact absurd h (Nat.not_lt_zero i)
  | cons a l ih =>
    cases i with
    | zero => rfl
    | succ i => exact congrArg (a :: ·) (ih (Nat.lt_of_succ_lt_succ h))

end Sys2Proof

namespace Sys2Proof.Machine

-- One proof after another, as in Tests/Slice0.lean: in many threads at once they take too much memory.
set_option Elab.async false

/-! ## Each notifier -/

section

variable {s : State} (hs : s.ready = true)

include hs

theorem exec_notifyIlcTimeout : exec .notifyIlcTimeout s =
    .next (((s.pushIlc s.frame.anyTimeout).notify .ilcCommunicationTimeout
      (winOver (winPush s.safety.winIlc s.frame.anyTimeout) s.cfg.safety.winThreshold.ilc)
      (reportOf .ilcCommunicationTimeout)).respond .ok .none) := whenReady_ready hs _

theorem exec_notifyFaFollowingError_outside {i : Nat} (hi : s.cfg.plant.nFA ≤ i) (b : Bool)
    (r : List Byte) : exec (.notifyFaFollowingError i b r) s = .next (s.respond .badOperand .none) :=
  (whenReady_ready hs _).trans (if_pos hi)

theorem exec_notifyFaFollowingError {i : Nat} (hi : i < s.cfg.plant.nFA) (hw : i < s.safety.winFe.length)
    (b : Bool) (r : List Byte) : exec (.notifyFaFollowingError i b r) s =
      .next (((s.pushFe i b).notify .forceActuatorFollowingError
        (winOver (winPush (s.safety.winFe.getD i []) b) s.cfg.safety.winThreshold.fe) r).respond .ok
          .none) := by
  have hexec : exec (.notifyFaFollowingError i b r) s = execNotifyFaFollowingError i b r s := rfl
  have hpush : (s.pushFe i b).safety.winFe.getD i [] = winPush (s.safety.winFe.getD i []) b :=
    (modifyAt_getD _ _ _ _ _ hw).trans (if_pos rfl)
  rw [hexec, execNotifyFaFollowingError, whenReady_ready hs, if_neg (Nat.not_le.mpr hi), ← hpush]
  rfl

theorem exec_notifyHp_outside {k : Byte} (hk : 5 < k.toNat) (b : Bool) (r : List Byte) :
    exec (.notifyHpMeasuredForce k b r) s = .next (s.respond .badOperand .none) ∧
      exec (.notifyHpAirPressure k b r) s = .next (s.respond .badOperand .none) := by
  have hforce : exec (.notifyHpMeasuredForce k b r) s = execNotifyHpMeasuredForce k b r s := rfl
  have hair : exec (.notifyHpAirPressure k b r) s = execNotifyHpAirPressure k b r s := rfl
  rw [hforce, execNotifyHpMeasuredForce, hair, execNotifyHpAirPressure, whenReady_ready hs,
    whenReady_ready hs, (Hp.ofByte_eq_none_iff k).mpr hk]
  exact ⟨rfl, rfl⟩

theorem exec_notifyHpMeasuredForce (h : Hp) (b : Bool) (r : List Byte) :
    exec (.notifyHpMeasuredForce (BitVec.ofNat 8 h.number) b r) s =
      .next (((s.pushHpf h b).notify .hardpointMeasuredForce
        (winOver (winPush (s.safety.winHpf.get h) b) s.cfg.safety.winThreshold.hpf) r).respond .ok
          .none) := by
  have hexec : exec (.notifyHpMeasuredForce (BitVec.ofNat 8 h.number) b r) s =
      execNotifyHpMeasuredForce (BitVec.ofNat 8 h.number) b r s := rfl
  have hpush : (s.pushHpf h b).safety.winHpf.get h = winPush (s.safety.winHpf.get h) b :=
    PerHp.get_set_self _ h _
  rw [hexec, execNotifyHpMeasuredForce, whenReady_ready hs, Hp.ofByte_number, ← hpush]
  rfl

theorem exec_notifyHpAirPressure (h : Hp) (b : Bool) (r : List Byte) :
    exec (.notifyHpAirPressure (BitVec.ofNat 8 h.number) b r) s =
      .next (((s.pushHpa h b).notify .hardpointAirPressure
        (winOver (winPush (s.safety.winHpa.get h) b) s.cfg.safety.winThreshold.hpa) r).respond .ok
          .none) := by
  have hexec : exec (.notifyHpAirPressure (BitVec.ofNat 8 h.number) b r) s =
      execNotifyHpAirPressure (BitVec.ofNat 8 h.number) b r s := rfl
  have hpush : (s.pushHpa h b).safety.winHpa.get h = winPush (s.safety.winHpa.get h) b :=
    PerHp.get_set_self _ h _
  rw [hexec, execNotifyHpAirPressure, whenReady_ready hs, Hp.ofByte_number, ← hpush]
  rfl

end

/-- Settles O46: the equation of each notifier, in range and out of range. -/
theorem windowedNotifiers : Obligations.WindowedNotifiers := by
  unfold Obligations.WindowedNotifiers
  refine fun s sample report hs => ⟨exec_notifyIlcTimeout hs,
    fun i hi => exec_notifyFaFollowingError_outside hs hi sample report, fun i hi hw => ?_,
    fun b hb => exec_notifyHp_outside hs hb sample report,
    fun h => ⟨exec_notifyHpMeasuredForce hs h sample report, exec_notifyHpAirPressure hs h sample report⟩⟩
  dsimp only
  rw [exec_notifyFaFollowingError hs hi hw, State.pushFe, modifyAt_eq_set hw _ []]
  rfl

/-! ## The contents of a window -/

/-- Each sample pushed moves the window on by one (R314). -/
theorem foldl_winPush {w : List Bool} (hw : w ≠ []) (samples : List Bool) :
    samples.foldl winPush w = (w ++ samples).drop samples.length := by
  induction samples generalizing w with
  | nil => exact (List.append_nil w).symm
  | cons b bs ih =>
    obtain ⟨a, r, rfl⟩ := List.exists_cons_of_ne_nil hw
    have hpush : winPush (a :: r) b = r ++ [b] := rfl
    rw [List.foldl_cons, hpush, ih (by simp), List.append_assoc]
    rfl

/-- Missing samples count 0 (R314). -/
theorem winSum_last (N : Nat) (samples : List Bool) :
    winSum ((List.replicate N false ++ samples).drop samples.length) =
      (samples.drop (samples.length - N)).countP id := by
  rw [winSum, List.drop_append, List.length_replicate, List.countP_append, List.drop_replicate,
    List.countP_replicate]
  simp

/-! ## Any number of samples -/

/-- `Holds w s`, that the window of `s` is `w`, moves on with each sample that `instr` pushes. -/
def PushesBy (instr : Bool → Instr) (Holds : List Bool → State → Prop) : Prop :=
  ∀ w s b, Holds w s →
    ∃ u : State, exec (instr b) s = .next (u.respond .ok .none) ∧ Holds (winPush w b) (u.respond .ok .none)

theorem PushesBy.runSeq {instr : Bool → Instr} {Holds : List Bool → State → Prop}
    (h : PushesBy instr Holds) (samples : List Bool) {w : List Bool} {s : State} (hw : Holds w s) :
    ∃ t, runSeq (samples.map instr) s = .next t ∧ Holds (samples.foldl winPush w) t := by
  induction samples generalizing w s with
  | nil => exact ⟨s, rfl, hw⟩
  | cons b bs ih =>
    obtain ⟨u, hexec, hu⟩ := h w s b hw
    obtain ⟨t, hrun, ht⟩ := ih hu
    exact ⟨t, (runSeq_cons hexec _).trans hrun, ht⟩

theorem pushesBy_fe (i : Nat) : PushesBy (fun b => .notifyFaFollowingError i b [])
    (fun w s => s.ready = true ∧ i < s.cfg.plant.nFA ∧ s.safety.winFe[i]? = some w) := by
  rintro w s b ⟨hs, hi, hw⟩
  obtain ⟨hlt, _⟩ := List.getElem?_eq_some_iff.mp hw
  refine ⟨_, exec_notifyFaFollowingError hs hi hlt b [], (notify_ready _ _ _ _).trans hs, ?_, ?_⟩
  · rw [State.respond_cfg, State.notify_cfg]
    exact hi
  · rw [State.respond_safety, notify_safety, State.pushFe_safety, modifyAt_eq_set hlt _ [],
      List.getElem?_set_self hlt, List.getD_eq_getElem?_getD, hw]
    rfl

theorem pushesBy_hpf (h : Hp) :
    PushesBy (fun b => .notifyHpMeasuredForce (BitVec.ofNat 8 h.number) b [])
      (fun w s => s.ready = true ∧ s.safety.winHpf.get h = w) := by
  rintro w s b ⟨hs, rfl⟩
  refine ⟨_, exec_notifyHpMeasuredForce hs h b [], (notify_ready _ _ _ _).trans hs, ?_⟩
  rw [State.respond_safety, notify_safety, State.pushHpf_safety, PerHp.get_set_self]

theorem pushesBy_hpa (h : Hp) :
    PushesBy (fun b => .notifyHpAirPressure (BitVec.ofNat 8 h.number) b [])
      (fun w s => s.ready = true ∧ s.safety.winHpa.get h = w) := by
  rintro w s b ⟨hs, rfl⟩
  refine ⟨_, exec_notifyHpAirPressure hs h b [], (notify_ready _ _ _ _).trans hs, ?_⟩
  rw [State.respond_safety, notify_safety, State.pushHpa_safety, PerHp.get_set_self]

/-- Any number of samples of `ANY_TIMEOUT` (R316). -/
theorem ilcSamples_winIlc (samples : List Bool) {s : State} (hs : s.ready = true) :
    ∃ t, ilcSamples samples s = .next t ∧ t.safety.winIlc = samples.foldl winPush s.safety.winIlc := by
  induction samples generalizing s with
  | nil => exact ⟨s, rfl, rfl⟩
  | cons b bs ih =>
    have hpush : ∃ u : State, exec .notifyIlcTimeout (s.setAnyTimeout b) = .next u ∧ u.ready = true ∧
        u.safety.winIlc = winPush s.safety.winIlc b :=
      ⟨_, exec_notifyIlcTimeout (s := s.setAnyTimeout b) hs, (notify_ready _ _ _ _).trans hs,
        congrArg SafetyUnit.winIlc (notify_safety _ _ _ _)⟩
    obtain ⟨u, hexec, hready, hwin⟩ := hpush
    obtain ⟨t, hrun, ht⟩ := ih hready
    refine ⟨t, ?_, ?_⟩
    · rw [ilcSamples, hexec]
      exact hrun
    · rw [ht, hwin, List.foldl_cons]

/-- Settles O47: every notifier pushes by `winPush`, and `foldl_winPush` says what that leaves. -/
theorem windowHoldsLastSamples : Obligations.WindowHoldsLastSamples := by
  unfold Obligations.WindowHoldsLastSamples
  intro s N samples hs hN zeros last
  have hzeros : zeros ≠ [] := List.ne_nil_of_length_pos (by rw [List.length_replicate]; exact hN)
  have hlast : samples.foldl winPush zeros = last := foldl_winPush hzeros samples
  refine ⟨winSum_last N samples, fun hw => ?_, fun i hi hw => ?_, fun h => ⟨fun hw => ?_, fun hw => ?_⟩⟩
  · rw [← hlast, ← hw]
    exact ilcSamples_winIlc samples hs
  · obtain ⟨t, hrun, _, _, ht⟩ := (pushesBy_fe i).runSeq samples ⟨hs, hi, hw⟩
    exact ⟨t, hrun, hlast ▸ ht⟩
  · obtain ⟨t, hrun, _, ht⟩ := (pushesBy_hpf h).runSeq samples ⟨hs, hw⟩
    exact ⟨t, hrun, ht.trans hlast⟩
  · obtain ⟨t, hrun, _, ht⟩ := (pushesBy_hpa h).runSeq samples ⟨hs, hw⟩
    exact ⟨t, hrun, ht.trans hlast⟩

end Sys2Proof.Machine

/-! # A latched fault stays (spec/44_safety.md R312, spec/60_exceptions.md R390)

Most operations do not touch SAFETY at all. The others write `ERR` through `notify` alone, which leaves a
latched fault as it is. -/

namespace Sys2Proof.Machine

-- One proof after another, as in Tests/Slice0.lean: in many threads at once they take too much memory.
set_option Elab.async false

/-! ## Operations that leave SAFETY alone -/

/-- A fold of updates that each keep SAFETY keeps it. -/
theorem foldl_safety {α : Type} {f : State → α → State} (hf : ∀ s a, (f s a).safety = s.safety)
    (l : List α) (s : State) : (l.foldl f s).safety = s.safety := by
  induction l generalizing s with
  | nil => rfl
  | cons a l ih => exact (ih (f s a)).trans (hf s a)

@[simp] theorem State.disableComps_safety (s : State) (cs : List Comp) :
    (s.disableComps cs).safety = s.safety := foldl_safety State.disableComp_safety cs s

@[simp] theorem State.enableComps_safety (s : State) (cs : List Comp) :
    (s.enableComps cs).safety = s.safety := foldl_safety State.enableComp_safety cs s

@[simp] theorem State.finishComps_safety (s : State) : s.finishComps.safety = s.safety := by
  simp [State.finishComps]

@[simp] theorem State.finishBalance_safety (s : State) : s.finishBalance.safety = s.safety := by
  unfold State.finishBalance
  split <;> simp

@[simp] theorem State.progressUp_safety (s : State) : s.progressUp.safety = s.safety := by
  unfold State.progressUp
  dsimp only
  split <;> simp

@[simp] theorem State.progressDown_safety (s : State) : s.progressDown.safety = s.safety := by
  unfold State.progressDown
  dsimp only
  split <;> simp

@[simp] theorem State.raiseLoop_safety (s : State) (w : Bool) : (s.raiseLoop w).1.safety = s.safety := by
  unfold State.raiseLoop
  dsimp only
  split
  · rfl
  · split
    · simp
    · split <;> simp [State.endAirWait]

@[simp] theorem State.lowerLoop_safety (s : State) : s.lowerLoop.1.safety = s.safety := by
  unfold State.lowerLoop
  split
  · rfl
  · split <;> simp

@[simp] theorem State.sampleAll_safety (s : State) : s.sampleAll.safety = s.safety :=
  foldl_safety (fun t h => State.setHpc_safety t h _) Hp.all s

@[simp] theorem State.frameBody_safety (s : State) (sub a g : Byte) (p : List Byte) (ts : U64) :
    (s.frameBody sub a g p ts).1.safety = s.safety := by
  rcases frameBody_cases s sub a g p ts with ⟨c, id, h⟩ | ⟨e, _, h⟩ | ⟨e, code, ws, _, _, _, _, h⟩
  · rw [h, State.emit_safety]
  · rcases exceptionFrame_cases s e p ts with ⟨c, h'⟩ | ⟨c, h'⟩ <;> simp [h, h']
  · rw [h]
    rfl

@[simp] theorem State.goodFrame_safety (s : State) (sub : Byte) (body : List Byte) (ts : U64) :
    (s.goodFrame sub body ts).1.safety = s.safety := by
  unfold State.goodFrame
  split <;> simp

theorem parseLoop_safety (sub : Byte) (w : List Word16) (ts : U64) (fuel p : Nat) (s : State) (n : Nat) :
    (parseLoop sub w ts fuel p s n).1.safety = s.safety := by
  induction fuel generalizing p s n with
  | zero => rfl
  | succ fuel ih =>
    rw [parseLoop]
    split
    · rfl
    · dsimp only
      split <;> simp [ih]

@[simp] theorem State.parseBatch_safety (s : State) (sub : Byte) (n : Subnet) :
    (s.parseBatch sub n).1.safety = s.safety := by
  unfold State.parseBatch
  dsimp only
  split
  · rfl
  · split <;> simp [parseLoop_safety]

theorem reconcileOne_safety (ts : U64) (s : State) (k : ActType × Nat) :
    (reconcileOne ts s k).safety = s.safety := by
  unfold reconcileOne
  split <;> rfl

@[simp] theorem State.reconcile_safety (s : State) (ts : U64) : (s.reconcile ts).safety = s.safety :=
  foldl_safety (reconcileOne_safety ts) _ s

/-! ## The latch held -/

/-- Both branches of a check. -/
theorem Ends.ite {s : State} {P : State → Prop} {c : Prop} [Decidable c]
    {a b : Host.Outcome State Fault Refusal} (ha : Ends s P a) (hb : Ends s P b) :
    Ends s P (if c then a else b) := by
  split
  · exact ha
  · exact hb

/-- A fault latched in `s` is still latched in `u`, with its report. -/
def State.KeepsFault (s u : State) : Prop := s.safety.err.code ≠ .noFault → u.safety.err = s.safety.err

theorem State.keepsFault_of_safety {s u : State} (h : u.safety = s.safety) : s.KeepsFault u :=
  fun _ => congrArg SafetyUnit.err h

theorem State.KeepsFault.trans {s t u : State} (hst : s.KeepsFault t) (htu : t.KeepsFault u) :
    s.KeepsFault u :=
  fun hl => (htu (hst hl ▸ hl)).trans (hst hl)

/-- A notification overwrites no latched fault (R312). -/
theorem State.KeepsFault.notify {s u : State} (h : s.KeepsFault u) (c : FaultCode) (b : Bool)
    (r : List Byte) : s.KeepsFault (u.notify c b r) :=
  h.trans fun hl => by rw [notify_latched hl]

theorem State.pushIlc_keepsFault (s : State) (b : Bool) : s.KeepsFault (s.pushIlc b) := fun _ => rfl

theorem State.pushFe_keepsFault (s : State) (i : Nat) (b : Bool) : s.KeepsFault (s.pushFe i b) :=
  fun _ => rfl

theorem State.pushHpf_keepsFault (s : State) (h : Hp) (b : Bool) : s.KeepsFault (s.pushHpf h b) :=
  fun _ => rfl

theorem State.pushHpa_keepsFault (s : State) (h : Hp) (b : Bool) : s.KeepsFault (s.pushHpa h b) :=
  fun _ => rfl

theorem foldl_keepsFault {α : Type} {f : State → α → State}
    (hf : ∀ (s : State) (a : α), s.KeepsFault (f s a)) (l : List α) (s : State) :
    s.KeepsFault (l.foldl f s) := by
  induction l generalizing s with
  | nil => exact fun _ => rfl
  | cons a l ih => exact (hf s a).trans (ih (f s a))

theorem State.updateComp_keepsFault (s : State) (c : Comp) : s.KeepsFault (s.updateComp c) := by
  rcases updateComp_cases s c with ⟨_, h⟩ | ⟨_, _, h⟩ | ⟨_, _, h⟩
  · rw [h]
    exact fun _ => rfl
  · rw [h]
    exact fun _ => rfl
  · rw [h, State.postUpdate]
    refine (State.keepsFault_of_safety ?_).notify _ _ _
    exact (State.logClip_safety _ _ _).trans (State.setComp_safety s c _)

theorem State.updateActive_keepsFault (s : State) (c : Comp) : s.KeepsFault (s.updateActive c) := by
  unfold State.updateActive
  split
  · exact State.updateComp_keepsFault s c
  · exact fun _ => rfl

theorem State.processForces_keepsFault (s : State) : s.KeepsFault s.processForces := fun hl => by
  rw [processForces_eq]
  exact latchFirst_of_latched hl _

theorem State.timeOut_keepsFault (s : State) : s.KeepsFault s.timeOut :=
  (State.keepsFault_of_safety (State.setRaise_safety s _)).notify _ _ _

/-! ## Every instruction -/

theorem codecGet_keepsFault (buf : List Cell) (cur n : Nat) (mk : List Byte → CodecValue) (s : State) :
    Ends s s.KeepsFault (codecGet buf cur n mk s) := by
  refine .gated ?_
  split
  · exact .done _ fun _ => rfl
  · exact .refused _ (by decide)

theorem codecSet_keepsFault (buf : List Cell) (cur : Nat) (bs : List Byte) (s : State) :
    Ends s s.KeepsFault (codecSet buf cur bs s) := by
  refine .gated ?_
  split
  · exact .done _ fun _ => rfl
  · exact .refused _ (by decide)

theorem execGetStr_keepsFault (buf : List Cell) (cur : Nat) (s : State) :
    Ends s s.KeepsFault (execGetStr buf cur s) := by
  refine .gated ?_
  split
  · exact .refused _ (by decide)
  · split
    · exact .refused _ (by decide)
    · split
      · exact .refused _ (by decide)
      · exact .done _ fun _ => rfl

theorem execSetStr_keepsFault (buf : List Cell) (cur : Nat) (v : List Byte) (s : State) :
    Ends s s.KeepsFault (execSetStr buf cur v s) := by
  refine .gated ?_
  split
  · exact .refused _ (by decide)
  · split
    · exact .refused _ (by decide)
    · exact .done _ fun _ => rfl

theorem execAppend_keepsFault (sub a f : Byte) (args : AppendArgs) (s : State) :
    Ends s s.KeepsFault (execAppend sub a f args s) := by
  refine .gated ?_
  split
  · exact .refuse (by decide)
  · dsimp only
    split
    · exact .refuse (by decide)
    · split
      · exact .refuse (by decide)
      · split
        · exact .refuse (by decide)
        · exact .done _ fun _ => rfl

theorem execWaitIrq_keepsFault (sub : Byte) (irq : Bool) (rx : List Word16) (s : State) :
    Ends s s.KeepsFault (execWaitIrq sub irq rx s) := by
  refine .gated ?_
  split
  · exact .refuse (by decide)
  · split
    · split
      · exact .refuse (by decide)
      · exact .done _ fun _ => rfl
    · exact .done _ fun _ => rfl

theorem onComp_keepsFault (c : Byte) (s : State) {f : Comp → State} (hf : ∀ k, s.KeepsFault (f k)) :
    Ends s s.KeepsFault (onComp c s f) := by
  refine .gated ?_
  split
  · exact .refuse (by decide)
  · exact .done _ (hf _)

theorem execFcApply_keepsFault (c : Byte) (x y z : List F32) (s : State) :
    Ends s s.KeepsFault (execFcApply c x y z s) := by
  refine .gated ?_
  split
  · exact .refuse (by decide)
  · split
    · exact .done _ fun _ => rfl
    · exact .refuse (by decide)

theorem execNotify_keepsFault (code : Byte) (b : Bool) (r : List Byte) (s : State) :
    Ends s s.KeepsFault (execNotify code b r s) := by
  refine .gated ?_
  split
  · exact .refuse (by decide)
  · exact .done _ (State.KeepsFault.notify (u := s) (fun _ => rfl) _ b r)

theorem execNotifyHpMeasuredForce_keepsFault (h : Byte) (b : Bool) (r : List Byte) (s : State) :
    Ends s s.KeepsFault (execNotifyHpMeasuredForce h b r s) := by
  refine .gated ?_
  split
  · exact .refuse (by decide)
  · exact .done _ ((State.pushHpf_keepsFault s _ b).notify _ _ r)

theorem execNotifyHpAirPressure_keepsFault (h : Byte) (b : Bool) (r : List Byte) (s : State) :
    Ends s s.KeepsFault (execNotifyHpAirPressure h b r s) := by
  refine .gated ?_
  split
  · exact .refuse (by decide)
  · exact .done _ ((State.pushHpa_keepsFault s _ b).notify _ _ r)

/-- The configuration is loaded while no fault is latched (R326). -/
theorem execSettingsLoad_keepsFault (c : Cfg) (s : State) : Ends s s.KeepsFault (execSettingsLoad c s) := by
  by_cases hfree : s.safety.err.code = .noFault
  · exact (execSettingsLoad_effect c s).mono fun u _ hl => absurd hfree hl
  · have hexec : execSettingsLoad c s = .next (s.respond .badState .none) :=
      exec_settingsLoad_busy (configIdle_of_busy (.inr (.inr (.inr hfree)))) c
    exact hexec ▸ .refused _ (by decide)

theorem execMapBuild_keepsFault (s : State) : Ends s s.KeepsFault (execMapBuild s) := by
  unfold execMapBuild
  split
  · exact .refuse (by decide)
  · split
    · exact .refuse (by decide)
    · exact .done _ fun _ => rfl

/-- Every instruction holds a latched fault, but for the four that free the latch. -/
theorem exec_keepsFault (i : Instr) (s : State) (hi : freesLatch i = false) :
    Ends s s.KeepsFault (exec i s) := by
  cases i
  case checkSafety | clearError | clearErrorCode | reset => cases hi
  case getU8 | getI8 | getU16 | getI16 | getU32 | getI32 | getU64 | getI64 | getF32 | getF64 =>
    exact codecGet_keepsFault _ _ _ _ s
  case setU8 | setI8 | setU16 | setI16 | setU32 | setI32 | setU64 | setI64 | setF32 | setF64 =>
    exact codecSet_keepsFault _ _ _ s
  case getStr buf cur => exact execGetStr_keepsFault buf cur s
  case setStr buf cur v => exact execSetStr_keepsFault buf cur v s
  case append sub a f args => exact execAppend_keepsFault sub a f args s
  case waitIrq sub irq rx => exact execWaitIrq_keepsFault sub irq rx s
  case startSubnet | endSubnet =>
    refine .gated ?_
    split
    · exact .refuse (by decide)
    · exact .ite (.refuse (by decide)) (.ite (.refuse (by decide)) (.done _ fun _ => rfl))
  case send | validateCrc =>
    refine .gated ?_
    split
    · exact .refuse (by decide)
    · exact .ite (.refuse (by decide)) (.done _ fun _ => rfl)
  case parse sub b =>
    refine .gated ?_
    split
    · exact .refuse (by decide)
    · exact .done _ (State.keepsFault_of_safety (State.parseBatch_safety s sub _))
  case reconcile ts => exact .gated (.done _ (State.keepsFault_of_safety (State.reconcile_safety s ts)))
  case fcEnable c | fcDisable c | fcZero c => exact onComp_keepsFault c s fun _ _ => rfl
  case fcUpdate c => exact onComp_keepsFault c s (State.updateComp_keepsFault s)
  case fcApply c x y z => exact execFcApply_keepsFault c x y z s
  case updateApplied => exact .gated (.done _ (foldl_keepsFault State.updateActive_keepsFault Comp.all s))
  case processApplied =>
    exact .gated (.ite (.done _ (State.processForces_keepsFault s)) (.refuse (by decide)))
  case notify code b r => exact execNotify_keepsFault code b r s
  case notifyIlcTimeout => exact .gated (.done _ ((State.pushIlc_keepsFault s _).notify _ _ _))
  case notifyFaFollowingError k b r =>
    exact .gated (.ite (.refuse (by decide)) (.done _ ((State.pushFe_keepsFault s k b).notify _ _ r)))
  case notifyHpMeasuredForce h b r => exact execNotifyHpMeasuredForce_keepsFault h b r s
  case notifyHpAirPressure h b r => exact execNotifyHpAirPressure_keepsFault h b r s
  case raiseStart | lowerStart =>
    refine .gated (.ite (.refuse (by decide)) (.ite (.refuse (by decide)) (.done _ ?_)))
    exact State.keepsFault_of_safety (State.disableComps_safety s transferComps)
  case raiseRunloop w =>
    refine .gated (.ite (.done _ (State.keepsFault_of_safety ?_)) (.refuse (by decide)))
    exact State.raiseLoop_safety s w
  case lowerRunloop =>
    refine .gated (.ite (.done _ (State.keepsFault_of_safety ?_)) (.refuse (by decide)))
    exact State.lowerLoop_safety s
  case raiseCheckComplete =>
    exact .gated (.ite (.ite (.done _ (State.keepsFault_of_safety (State.sampleAll_safety s)))
      (.done _ fun _ => rfl)) (.refuse (by decide)))
  case raiseComplete =>
    refine .gated (.ite (.done _ (State.keepsFault_of_safety ?_)) (.refuse (by decide)))
    exact (State.finishBalance_safety _).trans (State.finishComps_safety s)
  case lowerComplete =>
    refine .gated (.ite (.done _ (State.keepsFault_of_safety ?_)) (.refuse (by decide)))
    exact State.disableComps_safety s Comp.all
  case checkTimeout =>
    refine .gated (.done _ ?_)
    split
    · exact State.timeOut_keepsFault s
    · exact fun _ => rfl
  case timeout => exact .gated (.ite (.done _ (State.timeOut_keepsFault s)) (.refuse (by decide)))
  case pause | resume | lowerCheckComplete =>
    exact .gated (.ite (.done _ fun _ => rfl) (.refuse (by decide)))
  case hpcSample | hpcReset | hpcStatus =>
    refine .gated ?_
    split
    · exact .refuse (by decide)
    · exact .done _ fun _ => rfl
  case crc16 | rlReset | spInc | spDec | spZero | spFill | spFilled | spZeroed | faFeInTol
      | hpForcesInTol =>
    exact .gated (.done _ fun _ => rfl)
  case pullTelemetry => exact .done _ fun _ => rfl
  case mapBuild => exact execMapBuild_keepsFault s
  case settingsLoad c => exact execSettingsLoad_keepsFault c s
  all_goals exact .gated (.done _ (State.keepsFault_of_safety (State.frameBody_safety s _ _ _ _ _)))

/-- Settles O45: a refusal writes only the response; an operation that ends `OK` is `exec_keepsFault`. -/
theorem latchHeldUntilCleared : Obligations.LatchHeldUntilCleared := by
  unfold Obligations.LatchHeldUntilCleared
  intro i s t hi hl hexec
  have hends : Ends s s.KeepsFault (.next t) := hexec ▸ exec_keepsFault i s hi
  exact hends.next_of (fun _ => rfl) (fun _ _ _ hu => hu) hl

end Sys2Proof.Machine

/-! # The operations of RAISE on a configured block (spec/45_raise_lower.md R340 to R371)

What each operation answers by the branches of its pseudocode, and what the two run loops leave: cited by
the statements of this family instead of the operations' definitions. -/

namespace Sys2Proof.Machine

-- One proof after another, as in Tests/Slice0.lean: in many threads at once they take too much memory.
set_option Elab.async false

/-! ## The state the machine is in -/

theorem RaiseUnit.runningIn_iff (u : RaiseUnit) (d : RaiseDir) :
    u.runningIn d = true ↔ u.rstate = .running ∧ u.rdir = d := by
  rw [RaiseUnit.runningIn, Bool.and_eq_true, beq_iff_eq, beq_iff_eq]

theorem RaiseUnit.not_runningIn {u : RaiseUnit} {d : RaiseDir} (h : u.rstate ≠ .running ∨ u.rdir ≠ d) :
    ¬ u.runningIn d = true := fun hrun => by
  obtain ⟨hstate, hdir⟩ := (u.runningIn_iff d).mp hrun
  exact h.elim (absurd hstate) (absurd hdir)

section

variable {s : State} (hs : s.ready = true) {c : Prop} [Decidable c]
  {k : Host.Outcome State Fault Refusal}

include hs

/-- An operation in a state that its check admits (R341). -/
theorem whenReady_admitted (h : c) {o : Host.Outcome State Fault Refusal} :
    whenReady s (if c then k else o) = k := by rw [whenReady_ready hs, if_pos h]

/-- An operation in a state that its check does not admit (R341). -/
theorem whenReady_badState (h : ¬ c) :
    whenReady s (if c then k else s.refuse .badState) = .next (s.respond .badState .none) := by
  rw [whenReady_ready hs, if_neg h]
  rfl

end

/-! ## The wait, the stall, one step -/

/-- The note is logged once per wait (R346). -/
theorem holdAir_eq (s : State) : s.holdAir = { s with
    raise := { s.raise with waitAirLogged := true }
    log := if s.raise.waitAirLogged = true then s.log else s.log ++ [.raiseNote airNote] } := by
  unfold State.holdAir
  split <;> rfl

/-- The event is logged once per stall (R346, R369). -/
theorem stall_eq (s : State) : s.stall = { s with
    raise := { s.raise with stalled := true }
    log := if s.raise.stalled = true then s.log else s.log ++ [.raiseStall] } := by
  unfold State.stall
  split <;> rfl

theorem RaiseUnit.progressUp_eq (u : RaiseUnit) (p : F64) : u.progressUp p = { u with
    stalled := false, pct := p, chase := if f64Le f64Hundred p = true then false else u.chase
    moveRef := if f64Le f64Hundred p = true ∧ u.bypass = false then u.moveRef + 1 else u.moveRef } := by
  have hcount : (pctFilled p && !u.bypass) = true ↔ f64Le f64Hundred p = true ∧ u.bypass = false := by
    rw [Bool.and_eq_true, Bool.not_eq_true']
    rfl
  rw [RaiseUnit.progressUp, if_congr hcount rfl rfl]
  rfl

@[simp] theorem State.holdAir_raise (s : State) :
    s.holdAir.raise = { s.raise with waitAirLogged := true } := by rw [holdAir_eq]

@[simp] theorem State.stall_raise (s : State) : s.stall.raise = { s.raise with stalled := true } := by
  rw [stall_eq]

@[simp] theorem State.progressUp_raise (s : State) :
    s.progressUp.raise = s.raise.progressUp (pctUp s.cfg.raise s.raise.pct) := by
  unfold State.progressUp
  dsimp only
  split <;> rfl

@[simp] theorem State.progressDown_raise (s : State) : s.progressDown.raise = { s.raise with
    stalled := false, pct := pctDown s.cfg.raise s.raise.pct
    chase := if pctZeroed (pctDown s.cfg.raise s.raise.pct) then false else s.raise.chase } := by
  unfold State.progressDown
  dsimp only
  split <;> rfl

/-! ## The run loops -/

section

variable {s : State}

theorem raiseLoop_of_filled (hp : pctFilled s.raise.pct = true) (w : Bool) :
    s.raiseLoop w = (s, false) := if_pos hp

theorem raiseLoop_waiting (hp : pctFilled s.raise.pct = false) :
    s.raiseLoop true = (s.holdAir, false) := by
  rw [State.raiseLoop, hp]
  rfl

/-- The end of the wait is no part of what the tolerance checks read (R351, R352). -/
theorem raiseLoop_not_waiting (hp : pctFilled s.raise.pct = false) :
    s.raiseLoop false = if hpForcesOk s true && faFeOk s then (s.endAirWait.progressUp, true)
      else (s.endAirWait.stall, false) := by
  rw [State.raiseLoop, hp]
  rfl

theorem lowerLoop_of_zeroed (hp : pctZeroed s.raise.pct = true) : s.lowerLoop = (s, false) := if_pos hp

theorem lowerLoop_of_not_zeroed (hp : pctZeroed s.raise.pct = false) :
    s.lowerLoop = if hpForcesOk s false && faFeOk s then (s.progressDown, true) else (s.stall, false) := by
  rw [State.lowerLoop, hp]
  rfl

/-- What a call of the raise loop can do (R346): nothing at 100, wait, step up, stall. -/
theorem raiseLoop_cases (s : State) (w : Bool) :
    (pctFilled s.raise.pct = true ∧ (s.raiseLoop w).1 = s) ∨
      (pctFilled s.raise.pct = false ∧ (s.raiseLoop w).1 = s.holdAir) ∨
      (pctFilled s.raise.pct = false ∧ (hpForcesOk s true && faFeOk s) = true ∧
        (s.raiseLoop w).1 = s.endAirWait.progressUp) ∨
      (pctFilled s.raise.pct = false ∧ (s.raiseLoop w).1 = s.endAirWait.stall) := by
  cases hp : pctFilled s.raise.pct with
  | true => exact .inl ⟨rfl, by rw [raiseLoop_of_filled hp]⟩
  | false =>
    cases w with
    | true => exact .inr (.inl ⟨rfl, by rw [raiseLoop_waiting hp]⟩)
    | false =>
      rw [raiseLoop_not_waiting hp]
      cases hpForcesOk s true && faFeOk s with
      | true => exact .inr (.inr (.inl ⟨rfl, rfl, rfl⟩))
      | false => exact .inr (.inr (.inr ⟨rfl, rfl⟩))

/-- What a call of the lowering loop can do (R369): nothing at 0, step down, stall. -/
theorem lowerLoop_cases (s : State) :
    s.lowerLoop.1 = s ∨
      ((hpForcesOk s false && faFeOk s) = true ∧ s.lowerLoop.1 = s.progressDown) ∨
      s.lowerLoop.1 = s.stall := by
  cases hp : pctZeroed s.raise.pct with
  | true => exact .inl (by rw [lowerLoop_of_zeroed hp])
  | false =>
    rw [lowerLoop_of_not_zeroed hp]
    cases hpForcesOk s false && faFeOk s with
    | true => exact .inr (.inl ⟨rfl, rfl⟩)
    | false => exact .inr (.inr rfl)

end

end Sys2Proof.Machine

/-! # Sums of binary64 (spec/43_force_pipeline.md R267) -/

namespace Sys2Proof

/-- Adding what is not below zero to a finite value does not take it down (R267): the exact sum is rounded
monotonically, and an infinite operand is `+∞`. -/
theorem Fmt.le_add {f : Fmt} {a b : Nat} (nan : Nat) (ha : f.mag a < f.inf) (hb : f.le 0 b = true)
    (hbl : b < 2 * f.signBit) : f.le a (f.add nan a b) = true ∧ f.add nan a b < 2 * f.signBit := by
  have hna := Fmt.not_isNaN_of_finite ha
  have hnb := (Fmt.zero_le_iff.mp hb).1
  rcases Nat.lt_or_eq_of_le (Fmt.mag_le_inf hnb) with hfin | hinf
  · obtain ⟨hnan, hlt, hkey⟩ := Fmt.add_finite nan ha hfin
    have hround := f.rnd_mono (j := f.value a) (k := f.value a + f.value b)
      (Int.le_add_of_nonneg_right (Fmt.value_nonneg hb))
    rw [← Fmt.key_eq_rnd_value ha, ← hkey] at hround
    exact ⟨Fmt.le_iff.mpr ⟨hna, hnan, hround⟩, hlt⟩
  · have hia : f.isInf a = false := decide_eq_false (Nat.ne_of_lt ha)
    have hib : f.isInf b = true := decide_eq_true hinf
    have hsum : f.add nan a b = b := by simp [Fmt.add, hna, hnb, hia, hib]
    have hpos : f.neg b = false := Fmt.neg_of_isInf (Nat.zero_lt_of_lt ha) hb hib
    have hkey : f.key b = f.inf := by simp [Fmt.key, hpos, hinf]
    rw [hsum]
    exact ⟨Fmt.le_iff.mpr ⟨hna, hnb, hkey ▸ (Fmt.mag_lt_inf_iff_key.mp ha).2.le⟩, hbl⟩

theorem f64Le_add {a b : F64} (ha : f64IsFinite a = true) (hb : f64Le 0 b = true) :
    f64Le a (f64Add a b) = true := by
  obtain ⟨hle, hlt⟩ := Fmt.le_add (nan64Of (Config.nan64 .add a b)) (of_decide_eq_true ha) hb
    (f64_toNat_lt b)
  unfold f64Le f64Add
  rw [f64_toNat_ofNat hlt]
  exact hle

theorem f64Le_refl {a : F64} (ha : f64IsNaN a = false) : f64Le a a = true :=
  Fmt.le_iff.mpr ⟨ha, ha, Int.le_refl _⟩

end Sys2Proof

/-! # Starting, and the run loops (spec/45_raise_lower.md R344, R346, R347, R368, R369) -/

namespace Sys2Proof.Machine

-- One proof after another, as in Tests/Slice0.lean: in many threads at once they take too much memory.
set_option Elab.async false

/-! ## Starting -/

section

variable {s : State} (hs : s.ready = true)

include hs

theorem exec_raiseStart_busy (h : s.raise.rstate ≠ .idle) (bypass : Bool) (now : F64) :
    exec (.raiseStart bypass now) s = .next (s.respond .badState .none) :=
  (whenReady_ready hs _).trans (if_pos h)

theorem exec_raiseStart_idle (h : s.raise.rstate = .idle) (bypass : Bool) (now : F64) :
    exec (.raiseStart bypass now) s = if f64IsFinite now then
      .next ((((s.disableComps transferComps).enableComp .elevation).setRaise
        (s.raise.startRaise s.cfg.raise bypass now)).respond .ok .none)
      else .next (s.respond .badOperand .none) := by
  refine (whenReady_ready hs _).trans ((if_neg (not_not_intro h)).trans ?_)
  cases hnow : f64IsFinite now <;> simp [badTime, hnow]

theorem exec_lowerStart_lowering
    (h : (s.raise.rstate = .running ∨ s.raise.rstate = .paused) ∧ s.raise.rdir = .lower) (now : F64) :
    exec (.lowerStart now) s = .next (s.respond .badState .none) :=
  (whenReady_ready hs _).trans (if_pos h)

theorem exec_lowerStart
    (h : ¬ ((s.raise.rstate = .running ∨ s.raise.rstate = .paused) ∧ s.raise.rdir = .lower)) (now : F64) :
    exec (.lowerStart now) s = if f64IsFinite now then
      .next (((s.disableComps transferComps).setRaise (s.raise.startLower s.cfg.raise now)).respond .ok .none)
      else .next (s.respond .badOperand .none) := by
  refine (whenReady_ready hs _).trans ((if_neg h).trans ?_)
  cases hnow : f64IsFinite now <;> simp [badTime, hnow]

end

/-- Settles O52: the checks of the two start operations in order, then `startRaise` and `startLower`. -/
theorem raiseAndLowerStart : Obligations.RaiseAndLowerStart := by
  unfold Obligations.RaiseAndLowerStart
  refine fun s bypass now hs => ⟨fun hbusy => exec_raiseStart_busy hs hbusy bypass now,
    fun hactive hlower => exec_lowerStart_lowering hs ⟨hactive, hlower⟩ now,
    fun hidle => ?_, fun hadmitted => ?_⟩
  · rw [exec_raiseStart_idle hs hidle]
    exact ⟨fun hnow => by rw [hnow]; rfl, fun hnow => if_pos hnow⟩
  · have hnot : ¬ ((s.raise.rstate = .running ∨ s.raise.rstate = .paused) ∧ s.raise.rdir = .lower) := by
      rintro ⟨hactive, hlower⟩
      rcases hadmitted with h | h | h <;> simp [h] at hactive hlower
    rw [exec_lowerStart hs hnot]
    exact ⟨fun hnow => by rw [hnow]; rfl, fun hnow => if_pos hnow⟩

/-! ## The raise loop -/

theorem exec_raiseRunloop {s : State} (hs : s.ready = true) (h : s.raise.runningIn .raise = true)
    (w : Bool) : exec (.raiseRunloop w) s =
      .next ((s.raiseLoop w).1.respond .ok (.bool (s.raiseLoop w).2)) :=
  whenReady_admitted hs h

/-- The registers after a progressing call of the raise loop (R346). -/
theorem endAirWait_progressUp (s : State) : s.endAirWait.progressUp =
    let p := pctUp s.cfg.raise s.raise.pct
    let t : State := { s with raise := { s.raise with
      waitAirLogged := false, stalled := false, pct := p
      chase := if f64Le f64Hundred p = true then false else s.raise.chase
      moveRef := if f64Le f64Hundred p = true ∧ s.raise.bypass = false then s.raise.moveRef + 1
        else s.raise.moveRef } }
    if f64Lt s.cfg.raise.staticEnablePct p = true then t.enableComp .static else t := by
  rw [State.progressUp, RaiseUnit.progressUp_eq]
  rfl

/-- Settles O53: the cases of `raiseLoop_cases`. -/
theorem raiseRunloop : Obligations.RaiseRunloop := by
  unfold Obligations.RaiseRunloop
  refine fun s hs => ⟨fun hnot w => whenReady_badState hs (RaiseUnit.not_runningIn hnot),
    fun hstate hdir => ?_⟩
  have hrun := (s.raise.runningIn_iff .raise).mpr ⟨hstate, hdir⟩
  refine ⟨fun hfull w => ?_, fun hpart => ⟨?_, fun hok => ?_, fun hstall => ?_⟩⟩
  · rw [exec_raiseRunloop hs hrun, raiseLoop_of_filled hfull]
  · rw [exec_raiseRunloop hs hrun, raiseLoop_waiting hpart, holdAir_eq]
    rfl
  · rw [exec_raiseRunloop hs hrun, raiseLoop_not_waiting hpart, if_pos hok, endAirWait_progressUp]
    rfl
  · rw [exec_raiseRunloop hs hrun, raiseLoop_not_waiting hpart, if_neg (Bool.eq_false_iff.mp hstall),
      stall_eq]
    rfl

/-! ## The support percentage in the loops (R347) -/

/-- A step up does not lower the percentage (R347). -/
theorem pctUp_le {c : RaiseCfg} {p : F64} (hinc : f64Lt 0 c.raiseInc = true) (hp : pctOk p) :
    f64Le p (pctUp c p) = true := by
  have hsum : f64Le p (f64Add p c.raiseInc) = true := f64Le_add (pctOk_finite hp) (f64Le_of_lt hinc)
  unfold pctUp
  rcases f64Min_cases (f64Le_not_nan hp.2).2 (f64Le_not_nan hsum).2 with h | ⟨h, _⟩
  · rw [h]
    exact hp.2
  · rw [h]
    exact hsum

/-- A step down does not raise the percentage (R369). -/
theorem pctDown_le {c : RaiseCfg} {p : F64} (hdec : f64Lt 0 c.lowerDec = true) (hp : pctOk p) :
    f64Le (pctDown c p) p = true := by
  have hdiff : f64Le (f64Sub p c.lowerDec) p = true := f64Sub_le hp.1 (pctOk_finite hp) (f64Le_of_lt hdec)
  unfold pctDown
  rcases f64Max_cases (f64Le_not_nan hp.1).1 (f64Le_not_nan hdiff).1 with h | ⟨h, _⟩
  · rw [h]
    exact hp.1
  · rw [h]
    exact hdiff

/-- A call of the raise loop keeps the percentage, or takes one step up within the tolerances. -/
theorem raiseLoop_pct (s : State) (w : Bool) :
    (s.raiseLoop w).1.raise.pct = s.raise.pct ∨ ((hpForcesOk s true && faFeOk s) = true ∧
      (s.raiseLoop w).1.raise.pct = pctUp s.cfg.raise s.raise.pct) := by
  rcases raiseLoop_cases s w with ⟨_, h⟩ | ⟨_, h⟩ | ⟨_, hok, h⟩ | ⟨_, h⟩
  · exact .inl (by rw [h])
  · exact .inl (by rw [h, State.holdAir_raise])
  · exact .inr ⟨hok, by rw [h, State.progressUp_raise]; rfl⟩
  · exact .inl (by rw [h, State.stall_raise]; rfl)

theorem lowerLoop_pct (s : State) :
    s.lowerLoop.1.raise.pct = s.raise.pct ∨ ((hpForcesOk s false && faFeOk s) = true ∧
      s.lowerLoop.1.raise.pct = pctDown s.cfg.raise s.raise.pct) := by
  rcases lowerLoop_cases s with h | ⟨hok, h⟩ | h
  · exact .inl (by rw [h])
  · exact .inr ⟨hok, by rw [h, State.progressDown_raise]⟩
  · exact .inl (by rw [h, State.stall_raise])

/-- What a run loop does to the percentage: it keeps it, or on a configured block and within the
tolerances `ok` writes `p`. -/
def PctStep (s : State) (ok : Bool) (p : F64) (u : State) : Prop :=
  u.raise.pct = s.raise.pct ∨ (s.ready = true ∧ ok = true ∧ u.raise.pct = p)

theorem exec_raiseRunloop_pct (s : State) (w : Bool) :
    Ends s (PctStep s (hpForcesOk s true && faFeOk s) (pctUp s.cfg.raise s.raise.pct))
      (exec (.raiseRunloop w) s) := by
  cases hs : s.ready with
  | false => exact exec_of_not_ready (i := .raiseRunloop w) rfl hs ▸ .refuse (by decide)
  | true =>
    exact .gated (.ite (.done _ ((raiseLoop_pct s w).imp_right fun h => ⟨hs, h⟩)) (.refuse (by decide)))

theorem exec_lowerRunloop_pct (s : State) :
    Ends s (PctStep s (hpForcesOk s false && faFeOk s) (pctDown s.cfg.raise s.raise.pct))
      (exec .lowerRunloop s) := by
  cases hs : s.ready with
  | false => exact exec_of_not_ready (i := .lowerRunloop) rfl hs ▸ .refuse (by decide)
  | true =>
    exact .gated (.ite (.done _ ((lowerLoop_pct s).imp_right fun h => ⟨hs, h⟩)) (.refuse (by decide)))

/-- A reflexive relation that the step respects holds of the percentage before and after. -/
theorem PctStep.monotone {s t : State} {ok : Bool} {p : F64} (h : PctStep s ok p t) {R : F64 → F64 → Prop}
    (hrefl : R s.raise.pct s.raise.pct) (hstep : s.ready = true → R s.raise.pct p) :
    R s.raise.pct t.raise.pct ∧ (ok = false → t.raise.pct = s.raise.pct) := by
  rcases h with h | ⟨hs, hok, h⟩
  · exact ⟨h.symm ▸ hrefl, fun _ => h⟩
  · exact ⟨h.symm ▸ hstep hs, fun hno => absurd (hno.symm.trans hok) Bool.false_ne_true⟩

/-- Settles O54: the steps are `pctUp` and `pctDown`, each on its side of the percentage. -/
theorem runloopsAreMonotone : Obligations.RunloopsAreMonotone := by
  unfold Obligations.RunloopsAreMonotone
  intro s t w hcfg hp
  have hrefl : f64Le s.raise.pct s.raise.pct = true := f64Le_refl (f64Le_not_nan hp.1).2
  have hsteps (hs : s.ready = true) := cfgOk_raise (hcfg.2 ((ready_iff s).mp hs).1)
  constructor
  · intro hexec
    have hends := exec_raiseRunloop_pct s w
    rw [hexec] at hends
    exact (hends.next_of (.inl rfl) fun _ _ _ h => h).monotone (R := fun p q => f64Le p q = true) hrefl
      fun hs => pctUp_le (hsteps hs).1 hp
  · intro hexec
    have hends := exec_lowerRunloop_pct s
    rw [hexec] at hends
    exact (hends.next_of (.inl rfl) fun _ _ _ h => h).monotone (R := fun p q => f64Le q p = true) hrefl
      fun hs => pctDown_le (hsteps hs).2 hp

/-! ## The move to the reference position (R61, R346) -/

/-- How many moves a raise with these registers has commanded: one, once filled and not bypassed. -/
def RaiseUnit.moves (u : RaiseUnit) : Nat := if pctFilled u.pct = true ∧ u.bypass = false then 1 else 0

theorem RaiseUnit.moves_of_not_filled {u : RaiseUnit} (h : pctFilled u.pct = false) : u.moves = 0 :=
  if_neg fun hmove => Bool.false_ne_true (h.symm.trans hmove.1)

theorem RaiseUnit.moves_congr {u v : RaiseUnit} (hp : pctFilled v.pct = pctFilled u.pct)
    (hb : v.bypass = u.bypass) : v.moves = u.moves := by rw [moves, moves, hp, hb]

/-- What calls of the raise loop leave of the registers, `u` before and `v` after: a filled percentage stays
filled, and the count goes up as `moves` does. -/
structure RaiseUnit.FillsOnce (u v : RaiseUnit) : Prop where
  phase : v.rstate = u.rstate ∧ v.rdir = u.rdir
  bypass : v.bypass = u.bypass
  filled : pctFilled u.pct = true → pctFilled v.pct = true
  count : v.moveRef + u.moves = u.moveRef + v.moves

theorem RaiseUnit.FillsOnce.of_kept {u v : RaiseUnit} (hphase : v.rstate = u.rstate ∧ v.rdir = u.rdir)
    (hb : v.bypass = u.bypass) (hp : v.pct = u.pct) (hm : v.moveRef = u.moveRef) : u.FillsOnce v where
  phase := hphase
  bypass := hb
  filled h := hp ▸ h
  count := by rw [moves_congr (congrArg pctFilled hp) hb, hm]

theorem RaiseUnit.FillsOnce.trans {u v w : RaiseUnit} (huv : u.FillsOnce v) (hvw : v.FillsOnce w) :
    u.FillsOnce w where
  phase := ⟨hvw.phase.1.trans huv.phase.1, hvw.phase.2.trans huv.phase.2⟩
  bypass := hvw.bypass.trans huv.bypass
  filled h := hvw.filled (huv.filled h)
  count := by
    have hfirst := huv.count
    have hsecond := hvw.count
    omega

/-- The actions at 100 are in the call that fills the percentage (R346). -/
theorem RaiseUnit.fillsOnce_progressUp {u : RaiseUnit} (hu : pctFilled u.pct = false) (p : F64) :
    u.FillsOnce (u.progressUp p) where
  phase := ⟨rfl, rfl⟩
  bypass := rfl
  filled h := absurd (hu.symm.trans h) Bool.false_ne_true
  count := by
    rw [moves_of_not_filled hu, progressUp_eq, moves, pctFilled]
    dsimp only
    split <;> rfl

/-- Where the percentage was filled before, it still is, and no move is commanded. -/
theorem RaiseUnit.FillsOnce.moveRef {u v : RaiseUnit} (h : u.FillsOnce v) : v.moveRef = u.moveRef +
    (if pctFilled u.pct = false ∧ pctFilled v.pct = true ∧ u.bypass = false then 1 else 0) := by
  have hcount := h.count
  cases hu : pctFilled u.pct with
  | true =>
    rw [moves_congr ((h.filled hu).trans hu.symm) h.bypass] at hcount
    rw [if_neg fun hmove => Bool.false_ne_true hmove.1.symm]
    exact Nat.add_right_cancel hcount
  | false =>
    rw [moves_of_not_filled hu, moves, h.bypass] at hcount
    simpa using hcount

theorem raiseLoop_fillsOnce (s : State) (w : Bool) : s.raise.FillsOnce (s.raiseLoop w).1.raise := by
  rcases raiseLoop_cases s w with ⟨_, h⟩ | ⟨_, h⟩ | ⟨hpart, _, h⟩ | ⟨_, h⟩
  · rw [h]
    exact .of_kept ⟨rfl, rfl⟩ rfl rfl rfl
  · rw [h, State.holdAir_raise]
    exact .of_kept ⟨rfl, rfl⟩ rfl rfl rfl
  · have hwait : s.raise.FillsOnce s.endAirWait.raise := .of_kept ⟨rfl, rfl⟩ rfl rfl rfl
    rw [h, State.progressUp_raise]
    exact hwait.trans (RaiseUnit.fillsOnce_progressUp (u := s.endAirWait.raise) hpart _)
  · rw [h, State.stall_raise]
    exact .of_kept ⟨rfl, rfl⟩ rfl rfl rfl

theorem raiseLoop_ready (s : State) (w : Bool) : (s.raiseLoop w).1.ready = s.ready :=
  congrArg (fun c : Cfg × Bool × Bool => c.2.1 && c.2.2) (State.raiseLoop_config s w)

/-- Any number of calls of the raise loop. -/
theorem runSeq_raiseRunloops (waits : List Bool) {s : State} (hs : s.ready = true)
    (hrun : s.raise.runningIn .raise = true) :
    ∃ t, runSeq (waits.map .raiseRunloop) s = .next t ∧ s.raise.FillsOnce t.raise := by
  induction waits generalizing s with
  | nil => exact ⟨s, rfl, .of_kept ⟨rfl, rfl⟩ rfl rfl rfl⟩
  | cons w waits ih =>
    have hfirst := raiseLoop_fillsOnce s w
    obtain ⟨hstate, hdir⟩ := (s.raise.runningIn_iff .raise).mp hrun
    obtain ⟨t, hseq, ht⟩ := ih (s := (s.raiseLoop w).1.respond .ok (.bool (s.raiseLoop w).2))
      ((raiseLoop_ready s w).trans hs)
      ((RaiseUnit.runningIn_iff _ _).mpr ⟨hfirst.phase.1.trans hstate, hfirst.phase.2.trans hdir⟩)
    exact ⟨t, (runSeq_cons (exec_raiseRunloop hs hrun w) _).trans hseq, hfirst.trans ht⟩

/-- Settles O55, by induction over the calls. -/
theorem moveToReferenceOnce : Obligations.MoveToReferenceOnce := by
  unfold Obligations.MoveToReferenceOnce
  intro s waits hs hstate hdir
  obtain ⟨t, hseq, ht⟩ := runSeq_raiseRunloops waits hs ((s.raise.runningIn_iff .raise).mpr ⟨hstate, hdir⟩)
  exact ⟨t, hseq, ht.moveRef⟩

end Sys2Proof.Machine

/-! # The end of a raise, timeout, lowering, percentage, counters (spec/45_raise_lower.md R349 to R371) -/

namespace Sys2Proof.Machine

-- One proof after another, as in Tests/Slice0.lean: in many threads at once they take too much memory.
set_option Elab.async false

/-! ## The counters of all hardpoints (R349) -/

/-- One sample taken by each of some counters, on the counters alone. -/
def sampleEach (c : RaiseCfg) (f : PerHp F32) (l : List Hp) (q : PerHp InRangeCounter) :
    PerHp InRangeCounter := l.foldl (fun q h => q.set h ((q.get h).sample c (f.get h))) q

/-- Samples write no register but the counters. -/
theorem foldl_sampleHpc (l : List Hp) (s : State) :
    l.foldl (fun t h => t.sampleHpc h (t.frame.hps.get h)) s =
      s.setRaise { s.raise with hpc := sampleEach s.cfg.raise s.frame.hps l s.raise.hpc } := by
  induction l generalizing s with
  | nil => rfl
  | cons h l ih => exact ih (s.sampleHpc h (s.frame.hps.get h))

/-- The six counters, each with a sample of its own hardpoint's force. -/
theorem sampleEach_all (c : RaiseCfg) (f : PerHp F32) (q : PerHp InRangeCounter) :
    sampleEach c f Hp.all q = ⟨q.h0.sample c f.h0, q.h1.sample c f.h1, q.h2.sample c f.h2,
      q.h3.sample c f.h3, q.h4.sample c f.h4, q.h5.sample c f.h5⟩ := by
  obtain ⟨q0, q1, q2, q3, q4, q5⟩ := q
  rfl

theorem sampleAll_eq (s : State) : s.sampleAll =
    s.setRaise { s.raise with hpc := sampleEach s.cfg.raise s.frame.hps Hp.all s.raise.hpc } :=
  foldl_sampleHpc Hp.all s

theorem noPending_eq (s : State) :
    noPending s = s.raise.hpc.all (fun v => v.status s.cfg.raise != .pending) := by
  simp [noPending, State.hpcStatusOf, Hp.all, PerHp.all, PerHp.get, Bool.and_assoc]

theorem exec_raiseCheckComplete {s : State} (hs : s.ready = true) (h : s.raise.runningIn .raise = true)
    (motion : Bool) : exec (.raiseCheckComplete motion) s =
      if pctFilled s.raise.pct && motion then
        .next (s.sampleAll.respond .ok (.bool (noPending s.sampleAll)))
      else .next (s.respond .ok (.bool false)) :=
  whenReady_admitted hs h

/-! ## The components at the end of a raise (R350) -/

theorem exec_raiseComplete {s : State} (hs : s.ready = true) (h : s.raise.runningIn .raise = true) :
    exec .raiseComplete s = .next ((s.finishComps.finishBalance.setRaise
      { s.raise with pct := f64Hundred, deadline := f64NaN, rstate := .complete }).respond .ok .none) :=
  whenReady_admitted hs h

theorem timedOutHps_finishComps (s : State) : timedOutHps s.finishComps = timedOutHps s := rfl

/-- Settles O56: the counters are `sampleAll_eq`, the components those of `finishComps`, and balance or the
note goes by the counters that timed out. -/
theorem raiseEnd : Obligations.RaiseEnd := by
  unfold Obligations.RaiseEnd
  refine fun s hs => ⟨fun hnot => ⟨whenReady_badState hs (RaiseUnit.not_runningIn hnot),
    fun _ => whenReady_badState hs (RaiseUnit.not_runningIn hnot)⟩, fun hstate hdir => ?_⟩
  have hrun := (s.raise.runningIn_iff .raise).mpr ⟨hstate, hdir⟩
  refine ⟨fun motion hearly => ?_, fun hfull => ?_, f64NaN, f64IsNaN_f64NaN, fun hnone => ?_,
    fun hsome => ?_⟩
  · have hpart : (pctFilled s.raise.pct && motion) = false := Bool.and_eq_false_iff.mpr hearly
    rw [exec_raiseCheckComplete hs hrun, hpart]
    rfl
  · have hfilled : (pctFilled s.raise.pct && true) = true := (Bool.and_true _).trans hfull
    rw [exec_raiseCheckComplete hs hrun, if_pos hfilled, noPending_eq, sampleAll_eq, sampleEach_all]
    rfl
  · have hbalance : s.finishComps.finishBalance = s.finishComps.enableComp .balance := if_pos hnone
    rw [exec_raiseComplete hs hrun, hbalance]
    rfl
  · have hnote : s.finishComps.finishBalance =
        s.finishComps.logEvent (.raiseNote (timeoutNote (timedOutHps s))) := if_neg hsome
    rw [exec_raiseComplete hs hrun, hnote]
    rfl

/-! ## Timeout, pause, resume, reset -/

theorem exec_checkTimeout {s : State} (hs : s.ready = true) (now : F64) : exec (.checkTimeout now) s =
    .next ((if expired s.raise.deadline now && s.raise.rstate == .running then s.timeOut else s).respond .ok
      (.bool (expired s.raise.deadline now))) :=
  whenReady_ready hs _

/-- Settles O57: each operation's check of the state, then the registers it writes. -/
theorem timeoutPauseResumeReset : Obligations.TimeoutPauseResumeReset := by
  unfold Obligations.TimeoutPauseResumeReset
  refine fun s now hs => ⟨fun hrest => ?_, fun hnot => whenReady_badState hs hnot,
    fun hnot => whenReady_badState hs hnot, fun hkeep => ?_, fun hexp hrun => ?_,
    fun hactive => whenReady_admitted hs hactive,
    fun hrun => ⟨f64NaN, f64IsNaN_f64NaN, whenReady_admitted hs hrun⟩,
    fun hpaused => whenReady_admitted hs hpaused, f64NaN, f64IsNaN_f64NaN, whenReady_ready hs _⟩
  · refine whenReady_badState hs ?_
    rcases hrest with h | h <;> simp [h]
  · have hno : (expired s.raise.deadline now && s.raise.rstate == .running) = false :=
      Bool.and_eq_false_iff.mpr (hkeep.imp_right beq_false_of_ne)
    rw [exec_checkTimeout hs, hno]
    rfl
  · have hfires : (expired s.raise.deadline now && s.raise.rstate == .running) = true :=
      (Bool.and_eq_true _ _).mpr ⟨hexp, beq_iff_eq.mpr hrun⟩
    have hexpired : expired s.raise.deadline now = true := hexp
    rw [exec_checkTimeout hs, if_pos hfires, hexpired]
    rfl

/-! ## Lowering -/

theorem exec_lowerRunloop {s : State} (hs : s.ready = true) (h : s.raise.runningIn .lower = true) :
    exec .lowerRunloop s = .next (s.lowerLoop.1.respond .ok (.bool s.lowerLoop.2)) :=
  whenReady_admitted hs h

/-- Settles O58: the branches of `lowerLoop`, the check and the end. -/
theorem lowering : Obligations.Lowering := by
  unfold Obligations.Lowering
  refine fun s hs => ⟨fun hnot => ?_, fun hstate hdir => ?_⟩
  · have hno := RaiseUnit.not_runningIn hnot
    exact ⟨whenReady_badState hs hno, whenReady_badState hs hno, whenReady_badState hs hno⟩
  · have hrun := (s.raise.runningIn_iff .lower).mpr ⟨hstate, hdir⟩
    refine ⟨fun hzero => ?_, fun hpart hok => ?_, fun hpart hstall => ?_, whenReady_admitted hs hrun,
      f64NaN, f64IsNaN_f64NaN, whenReady_admitted hs hrun⟩
    · rw [exec_lowerRunloop hs hrun, lowerLoop_of_zeroed hzero]
    · rw [exec_lowerRunloop hs hrun, lowerLoop_of_not_zeroed hpart, if_pos hok]
      rfl
    · rw [exec_lowerRunloop hs hrun, lowerLoop_of_not_zeroed hpart, if_neg (Bool.eq_false_iff.mp hstall),
        stall_eq]

/-! ## The support percentage and the tolerances -/

/-- Every following error in tolerance (R351). -/
theorem faFeOk_iff (s : State) : faFeOk s = true ↔ ∀ i, i < s.cfg.plant.nFA → faInTol s i = true := by
  simp [faFeOk]

/-- Every hardpoint force inside the band (R352). -/
theorem hpForcesOk_iff (s : State) (raise : Bool) : hpForcesOk s raise = true ↔ ∀ h,
    let b := if raise = true then s.cfg.raise.hpRaiseBand else s.cfg.raise.hpLowerBand
    f32Le b.lo (s.frame.hps.get h) = true ∧ f32Le (s.frame.hps.get h) b.hi = true := by
  simp only [hpForcesOk, PerHp.all_iff, Bool.and_eq_true]

theorem faInTol_iff (s : State) (i : Nat) : faInTol s i = true ↔
    let a := s.frame.afs.getD i ActuatorForce.init
    let tol := s.cfg.raise.feRaiseTol
    f32Le (f32Abs (f32Sub a.primary (s.force.fin.primarySet.getD i 0))) tol = true ∧
      (orientationOf s.cfg i = .singleAxis ∨
        f32Le (f32Abs (f32Sub a.secondary (s.force.fin.secondarySet.getD i 0))) tol = true) := by
  simp only [faInTol, within, Bool.and_eq_true, Bool.or_eq_true, beq_iff_eq]

/-- Settles O59: the six operations answer in every state of the machine; the predicates are `faFeOk_iff`
and `hpForcesOk_iff`. -/
theorem supportPercentAndTolerances : Obligations.SupportPercentAndTolerances := by
  unfold Obligations.SupportPercentAndTolerances
  refine fun s hs => ⟨whenReady_ready hs _, whenReady_ready hs _, whenReady_ready hs _, whenReady_ready hs _,
    whenReady_ready hs _, whenReady_ready hs _, ⟨faFeOk s, whenReady_ready hs _, ?_⟩,
    fun raise => ⟨hpForcesOk s raise, whenReady_ready hs _, hpForcesOk_iff s raise⟩⟩
  exact (faFeOk_iff s).trans (forall₂_congr fun i _ => faInTol_iff s i)

/-! ## The in-range counters -/

section

variable {c : RaiseCfg} {v : InRangeCounter}

theorem status_inRange (h : c.hpcInRange ≤ v.run) : v.status c = .inRange := if_pos h

theorem status_timedOut (hrun : v.run < c.hpcInRange) (htotal : c.hpcMax ≤ v.total) :
    v.status c = .timedOut := by rw [InRangeCounter.status, if_neg (Nat.not_le.mpr hrun), if_pos htotal]

theorem status_pending (hrun : v.run < c.hpcInRange) (htotal : v.total < c.hpcMax) :
    v.status c = .pending := by
  rw [InRangeCounter.status, if_neg (Nat.not_le.mpr hrun), if_neg (Nat.not_le.mpr htotal)]

/-- A counter that is not `Pending` is frozen (R364). -/
theorem sample_of_frozen (h : c.hpcInRange ≤ v.run ∨ c.hpcMax ≤ v.total) (f : F32) : v.sample c f = v := by
  rcases Nat.lt_or_ge v.run c.hpcInRange with hrun | hrun
  · have htotal := h.resolve_left (Nat.not_le.mpr hrun)
    rw [InRangeCounter.sample, status_timedOut hrun htotal]
  · rw [InRangeCounter.sample, status_inRange hrun]

/-- What a sample does to a `Pending` counter (R364). -/
theorem sample_of_pending (hrun : v.run < c.hpcInRange) (htotal : v.total < c.hpcMax) (f : F32) :
    v.sample c f = if v.run = 0 ∨ within c.hpcBand f v.midpoint = false then ⟨f, f, 1, v.total + 1⟩
      else ⟨f32Min v.lo f, f32Max v.hi f, v.run + 1, v.total + 1⟩ := by
  rw [InRangeCounter.sample, status_pending hrun htotal]

end

theorem PerHp.set_get_self {α : Type} (p : PerHp α) (h : Hp) : p.set h (p.get h) = p := by cases h <;> rfl

theorem setHpc_get_self (s : State) (h : Hp) : s.setHpc h (s.raise.hpc.get h) = s := by
  rw [State.setHpc, PerHp.set_get_self]
  rfl

section

variable {s : State} (hs : s.ready = true)

include hs

/-- An operation on a hardpoint's counter, whose operand names none (R364 to R366). -/
theorem hpc_outside {b : Byte} (hb : 5 < b.toNat) (k : Hp → Host.Outcome State Fault Refusal) :
    whenReady s (match Hp.ofByte b with
      | none => s.refuse .badOperand
      | some h => k h) = .next (s.respond .badOperand .none) := by
  rw [whenReady_ready hs, (Hp.ofByte_eq_none_iff b).mpr hb]
  rfl

theorem exec_hpcSample (h : Hp) (f : F32) : exec (.hpcSample (BitVec.ofNat 8 h.number) f) s =
    .next ((s.setHpc h ((s.raise.hpc.get h).sample s.cfg.raise f)).respond .ok .none) := by
  have hexec : exec (.hpcSample (BitVec.ofNat 8 h.number) f) s =
      execHpcSample (BitVec.ofNat 8 h.number) f s := rfl
  rw [hexec, execHpcSample, whenReady_ready hs, Hp.ofByte_number]
  rfl

theorem exec_hpcReset (h : Hp) : exec (.hpcReset (BitVec.ofNat 8 h.number)) s =
    .next ((s.setHpc h InRangeCounter.init).respond .ok .none) := by
  have hexec : exec (.hpcReset (BitVec.ofNat 8 h.number)) s = execHpcReset (BitVec.ofNat 8 h.number) s := rfl
  rw [hexec, execHpcReset, whenReady_ready hs, Hp.ofByte_number]
  rfl

theorem exec_hpcStatus (h : Hp) : exec (.hpcStatus (BitVec.ofNat 8 h.number)) s =
    .next (s.respond .ok (.hpcStatus ((s.raise.hpc.get h).status s.cfg.raise))) := by
  have hexec : exec (.hpcStatus (BitVec.ofNat 8 h.number)) s =
      execHpcStatus (BitVec.ofNat 8 h.number) s := rfl
  rw [hexec, execHpcStatus, whenReady_ready hs, Hp.ofByte_number]
  rfl

end

/-- Settles O60: the status by `run` and `total`, and what a sample does to a counter of each status. -/
theorem inRangeCounters : Obligations.InRangeCounters := by
  unfold Obligations.InRangeCounters
  refine fun s f hs => ⟨fun b hb => ⟨hpc_outside hs hb _, hpc_outside hs hb _, hpc_outside hs hb _⟩,
    fun h => ⟨exec_hpcReset hs h, fun hrun => ?_, fun hrun htotal => ?_, fun hrun htotal => ?_,
      fun hfrozen => ?_, fun hrun htotal hnew => ?_, fun hrun htotal hopen hnear => ?_⟩⟩
  · rw [exec_hpcStatus hs, status_inRange hrun]
  · rw [exec_hpcStatus hs, status_timedOut hrun htotal]
  · rw [exec_hpcStatus hs, status_pending hrun htotal]
  · rw [exec_hpcSample hs, sample_of_frozen hfrozen, setHpc_get_self]
  · have hwindow : (s.raise.hpc.get h).run = 0 ∨
        within s.cfg.raise.hpcBand f (s.raise.hpc.get h).midpoint = false := hnew
    rw [exec_hpcSample hs, sample_of_pending hrun htotal, if_pos hwindow]
  · have hwide : ¬ ((s.raise.hpc.get h).run = 0 ∨
        within s.cfg.raise.hpcBand f (s.raise.hpc.get h).midpoint = false) :=
      not_or.mpr ⟨hopen, fun hfar => Bool.false_ne_true (hfar.symm.trans hnear)⟩
    rw [exec_hpcSample hs, sample_of_pending hrun htotal, if_neg hwide]

end Sys2Proof.Machine

/-! # The raise and lower state machine (spec/45_raise_lower.md R340, R341)

Outside its table no instruction moves `(RSTATE, RDIR)`: FRAME, FORCE and SAFETY do not touch RAISE, and the
other operations of RAISE write other registers of it. -/

namespace Sys2Proof.Machine

-- One proof after another, as in Tests/Slice0.lean: in many threads at once they take too much memory.
set_option Elab.async false

/-! ## FRAME, FORCE and SAFETY write nothing of RAISE -/

/-- A fold of updates that each keep the registers of RAISE keeps them. -/
theorem foldl_raise {α : Type} {f : State → α → State} (hf : ∀ s a, (f s a).raise = s.raise)
    (l : List α) (s : State) : (l.foldl f s).raise = s.raise := by
  induction l generalizing s with
  | nil => rfl
  | cons a l ih => exact (ih (f s a)).trans (hf s a)

@[simp] theorem State.disableComps_raise (s : State) (cs : List Comp) :
    (s.disableComps cs).raise = s.raise := foldl_raise State.disableComp_raise cs s

@[simp] theorem State.updateComp_raise (s : State) (c : Comp) : (s.updateComp c).raise = s.raise := by
  rcases updateComp_cases s c with ⟨_, h⟩ | ⟨_, _, h⟩ | ⟨_, _, h⟩
  · rw [h]
  · rw [h, State.setComp_raise]
  · rw [h, State.postUpdate, State.notify_raise, State.logClip_raise, State.setComp_raise]

theorem State.updateActive_raise (s : State) (c : Comp) : (s.updateActive c).raise = s.raise := by
  unfold State.updateActive
  split
  · exact State.updateComp_raise s c
  · rfl

theorem State.processForces_raise (s : State) : s.processForces.raise = s.raise := by
  rw [processForces_eq]

@[simp] theorem State.frameBody_raise (s : State) (sub a g : Byte) (p : List Byte) (ts : U64) :
    (s.frameBody sub a g p ts).1.raise = s.raise := by
  rcases frameBody_cases s sub a g p ts with ⟨c, id, h⟩ | ⟨e, _, h⟩ | ⟨e, code, ws, _, _, _, _, h⟩
  · rw [h, State.emit_raise]
  · rw [h]
    rcases exceptionFrame_cases s e p ts with ⟨c, h'⟩ | ⟨c, h'⟩
    · rw [h', State.emit_raise]
    · rw [h', State.bumpExpect_raise, State.emit_raise]
  · rw [h]
    rfl

theorem State.goodFrame_raise (s : State) (sub : Byte) (body : List Byte) (ts : U64) :
    (s.goodFrame sub body ts).1.raise = s.raise := by
  unfold State.goodFrame
  split
  · exact State.frameBody_raise s sub _ _ _ ts
  · exact State.emit_raise s _ _ ts

theorem parseLoop_raise (sub : Byte) (w : List Word16) (ts : U64) (fuel p : Nat) (s : State) (n : Nat) :
    (parseLoop sub w ts fuel p s n).1.raise = s.raise := by
  induction fuel generalizing p s n with
  | zero => rfl
  | succ fuel ih =>
    rw [parseLoop]
    split
    · rfl
    · dsimp only
      split <;> simp [ih, State.goodFrame_raise]

theorem State.parseBatch_raise (s : State) (sub : Byte) (n : Subnet) :
    (s.parseBatch sub n).1.raise = s.raise := by
  unfold State.parseBatch
  dsimp only
  split
  · rfl
  · split
    · exact State.emit_raise s _ _ _
    · exact parseLoop_raise ..

theorem reconcileOne_raise (ts : U64) (s : State) (k : ActType × Nat) :
    (reconcileOne ts s k).raise = s.raise := by
  unfold reconcileOne
  split <;> rfl

theorem State.reconcile_raise (s : State) (ts : U64) : (s.reconcile ts).raise = s.raise :=
  foldl_raise (reconcileOne_raise ts) _ s

/-! ## The phase -/

/-- `(RSTATE, RDIR)` (R340). -/
def State.phase (s : State) : RaiseState × RaiseDir := (s.raise.rstate, s.raise.rdir)

/-- A state in the phase of `s`. -/
abbrev State.samePhase (s u : State) : Prop := u.phase = s.phase

theorem State.samePhase_of_raise {s u : State} (h : u.raise = s.raise) : s.samePhase u :=
  congrArg (fun r : RaiseUnit => (r.rstate, r.rdir)) h

theorem State.raiseLoop_phase (s : State) (w : Bool) : s.samePhase (s.raiseLoop w).1 := by
  obtain ⟨hstate, hdir⟩ := (raiseLoop_fillsOnce s w).phase
  exact congrArg₂ Prod.mk hstate hdir

theorem State.lowerLoop_phase (s : State) : s.samePhase s.lowerLoop.1 := by
  rcases lowerLoop_cases s with h | ⟨_, h⟩ | h
  · rw [h]
  · rw [h, State.samePhase, State.phase, State.progressDown_raise]
    rfl
  · rw [h, State.samePhase, State.phase, State.stall_raise]
    rfl

theorem State.timeOut_raise (s : State) : s.timeOut.raise = { s.raise with timedOut := true } :=
  State.notify_raise _ _ _ _

theorem State.timeOut_phase (s : State) : s.samePhase s.timeOut := by
  rw [State.samePhase, State.phase, State.timeOut_raise]
  rfl

theorem State.sampleAll_phase (s : State) : s.samePhase s.sampleAll := by
  rw [sampleAll_eq]
  rfl

/-! ## Every instruction -/

theorem onComp_phase (c : Byte) (s : State) {f : Comp → State} (hf : ∀ k, (f k).raise = s.raise) :
    Ends s s.samePhase (onComp c s f) := by
  refine .gated ?_
  split
  · exact .refuse (by decide)
  · exact .done _ (State.samePhase_of_raise (hf _))

/-- An operation that ends `OK` leaves the phase that the table says (R341). The cases are grouped by the
shape of the instruction's pseudocode: which tests it makes before it answers. -/
theorem exec_phase (i : Instr) (s : State) :
    Ends s (fun u => u.phase = raiseAfter i s.phase) (exec i s) := by
  cases i
  case raiseStart | lowerStart =>
    exact .gated (.ite (.refuse (by decide)) (.ite (.refuse (by decide)) (.done _ rfl)))
  case pause | resume | raiseComplete | lowerComplete | lowerCheckComplete =>
    exact .gated (.ite (.done _ rfl) (.refuse (by decide)))
  case reset | pullTelemetry => exact .done _ rfl
  case rlReset | crc16 | clearError | clearErrorCode | spInc | spDec | spZero | spFill | spFilled
      | spZeroed | faFeInTol | hpForcesInTol =>
    exact .gated (.done _ rfl)
  case raiseRunloop w => exact .gated (.ite (.done _ (State.raiseLoop_phase s w)) (.refuse (by decide)))
  case lowerRunloop => exact .gated (.ite (.done _ (State.lowerLoop_phase s)) (.refuse (by decide)))
  case raiseCheckComplete =>
    exact .gated (.ite (.ite (.done _ (State.sampleAll_phase s)) (.done _ rfl)) (.refuse (by decide)))
  case timeout => exact .gated (.ite (.done _ (State.timeOut_phase s)) (.refuse (by decide)))
  case checkTimeout =>
    refine .gated (.done _ ?_)
    split
    · exact State.timeOut_phase s
    · rfl
  case hpcSample | hpcReset | hpcStatus =>
    refine .gated ?_
    split
    · exact .refuse (by decide)
    · exact .done _ rfl
  case getU8 | getI8 | getU16 | getI16 | getU32 | getI32 | getU64 | getI64 | getF32 | getF64
      | setU8 | setI8 | setU16 | setI16 | setU32 | setI32 | setU64 | setI64 | setF32 | setF64 =>
    refine .gated ?_
    split
    · exact .done _ rfl
    · exact .refused _ (by decide)
  case getStr =>
    refine .gated ?_
    split
    · exact .refused _ (by decide)
    · split
      · exact .refused _ (by decide)
      · split
        · exact .refused _ (by decide)
        · exact .done _ rfl
  case setStr =>
    refine .gated ?_
    split
    · exact .refused _ (by decide)
    · split
      · exact .refused _ (by decide)
      · exact .done _ rfl
  case startSubnet | endSubnet =>
    refine .gated ?_
    split
    · exact .refuse (by decide)
    · exact .ite (.refuse (by decide)) (.ite (.refuse (by decide)) (.done _ rfl))
  case append =>
    refine .gated ?_
    split
    · exact .refuse (by decide)
    · refine .ite (.refuse (by decide)) ?_
      split
      · exact .refuse (by decide)
      · exact .ite (.refuse (by decide)) (.done _ rfl)
  case send | validateCrc =>
    refine .gated ?_
    split
    · exact .refuse (by decide)
    · exact .ite (.refuse (by decide)) (.done _ rfl)
  case waitIrq =>
    refine .gated ?_
    split
    · exact .refuse (by decide)
    · exact .ite (.ite (.refuse (by decide)) (.done _ rfl)) (.done _ rfl)
  case parse =>
    refine .gated ?_
    split
    · exact .refuse (by decide)
    · exact .done _ (State.samePhase_of_raise (State.parseBatch_raise s _ _))
  case reconcile ts => exact .gated (.done _ (State.samePhase_of_raise (State.reconcile_raise s ts)))
  case mapBuild =>
    refine .ite (.refuse (by decide)) ?_
    split
    · exact .refuse (by decide)
    · exact .done _ rfl
  case settingsLoad => exact .ite (.refuse (by decide)) (.ite (.refuse (by decide)) (.done _ rfl))
  case fcEnable c => exact onComp_phase c s (State.enableComp_raise s)
  case fcDisable c | fcZero c => exact onComp_phase c s (State.disableComp_raise s)
  case fcUpdate c => exact onComp_phase c s (State.updateComp_raise s)
  case fcApply =>
    refine .gated ?_
    split
    · exact .refuse (by decide)
    · exact .ite (.done _ rfl) (.refuse (by decide))
  case updateApplied =>
    exact .gated (.done _ (State.samePhase_of_raise (foldl_raise State.updateActive_raise Comp.all s)))
  case processApplied =>
    exact .gated (.ite (.done _ (State.samePhase_of_raise (State.processForces_raise s)))
      (.refuse (by decide)))
  case notifyIlcTimeout => exact .gated (.done _ (State.samePhase_of_raise (State.notify_raise _ _ _ _)))
  case notify | notifyFaFollowingError | notifyHpMeasuredForce | notifyHpAirPressure =>
    refine .gated ?_
    split
    · exact .refuse (by decide)
    · exact .done _ (State.samePhase_of_raise (State.notify_raise _ _ _ _))
  case checkSafety => exact .gated (.ite (.done _ rfl) (.done _ rfl))
  all_goals exact .gated (.done _ (State.samePhase_of_raise (State.frameBody_raise s _ _ _ _ _)))

/-- What is known of a state that an operation leaves when it answers `OK`. -/
theorem Ends.of_ok {s t : State} {P : State → Prop} {d : RspData} (h : Ends s P (.next t))
    (hrsp : t.rsp = some ⟨.ok, d⟩) : ∃ u, P u ∧ t = u.respond .ok d := by
  rcases h.next_cases with ⟨u, d', hu, rfl⟩ | ⟨st, d', hst, rfl⟩
  · obtain ⟨_, rfl⟩ := Response.mk.inj (Option.some.inj hrsp)
    exact ⟨u, hu, rfl⟩
  · exact absurd (Response.mk.inj (Option.some.inj hrsp)).1 hst

theorem exec_timeout_timedOut (s : State) : Ends s (fun u => u.raise.timedOut = true) (exec .timeout s) :=
  .gated (.ite (.done _ (by rw [State.timeOut_raise])) (.refuse (by decide)))

/-- Settles O51: the phase after an operation is `exec_phase`. -/
theorem raiseTransitions : Obligations.RaiseTransitions := by
  unfold Obligations.RaiseTransitions
  intro i s t d hexec hrsp
  constructor
  · obtain ⟨u, hu, rfl⟩ := (hexec ▸ exec_phase i s).of_ok hrsp
    exact hu
  · rintro rfl
    obtain ⟨u, hu, rfl⟩ := (hexec ▸ exec_timeout_timedOut s).of_ok hrsp
    exact hu

end Sys2Proof.Machine

/-! # The warnings of one response frame (spec/60_exceptions.md R386)

A lemma for each way a frame whose CRC was right ends in a warning, in the order of R212; O32 reads them off
for the twenty function codes and the exception response. -/

namespace Sys2Proof.Machine

/-! ## The lookup -/

theorem lookup_unknownSubnet {sub : Byte} (h : sub.toNat = 0 ∨ 5 < sub.toNat) (s : State) (a : Byte) :
    s.lookup sub a = .unknownSubnet := by
  have hnone : Subnet.ofByte sub = none := (Subnet.ofByte_eq_none_iff sub).mpr (by omega)
  rw [State.lookup, hnone]

theorem lookup_unknownAddress {s : State} {n : Subnet} {a : Byte}
    (ht : (mapGet (s.frame.ilcMap.get n) a.toNat).type = .unknown) :
    s.lookup n.number a = .unknownAddress := by
  rw [State.lookup, Subnet.ofByte_number]
  exact if_pos ht

/-- A function code that has no routine for a type is not recognised (R129). -/
theorem recognised_code_eq_none {c : Cfg} {t : ActType} {f : FnCode} (h : ⟨t, f⟩ ∉ c.frame.recognised) :
    recognised c t f.code = none := by
  rw [recognised, FnCode.ofByte_code]
  exact if_neg fun hc => h (List.contains_iff_mem.mp hc)

/-! ## Each warning -/

theorem exec_exceptionResponse (sub a : Byte) (f : BitVec 7) (p : List Byte) (ts : U64) (s : State) :
    exec (.exceptionResponse sub a f p ts) s = runResponse (exceptionByte f) sub a p ts s := rfl

section
variable {s : State} {sub a : Byte} (hs : s.ready = true)
include hs

theorem runResponse_unknownSubnet (hl : s.lookup sub a = .unknownSubnet) (g : Byte) (p : List Byte)
    (ts : U64) : runResponse g sub a p ts s =
      .next ((s.emit .unknownSubnet (-1) ts).respond .ok (.frames 0)) := by
  rw [runResponse, whenReady_ready hs, State.frameBody, hl, State.done_eq]

theorem runResponse_unknownAddress (hl : s.lookup sub a = .unknownAddress) (g : Byte) (p : List Byte)
    (ts : U64) : runResponse g sub a p ts s =
      .next ((s.emit .unknownAddress (-1) ts).respond .ok (.frames 0)) := by
  rw [runResponse, whenReady_ready hs, State.frameBody, hl, State.done_eq]

/-- A function code's frame at a mapped address goes on to the function and the payload. -/
theorem runResponse_found {e : IlcEntry} (hl : s.lookup sub a = .found e) (f : FnCode) (p : List Byte)
    (ts : U64) : runResponse f.code sub a p ts s =
      .next ((s.functionFrame sub a f.code e p ts).1.respond .ok
        (.frames (s.functionFrame sub a f.code e p ts).2)) := by
  have hcode : ¬ 128 ≤ f.code.toNat := Nat.not_le.mpr (FnCode.code_lt f)
  rw [runResponse, whenReady_ready hs, State.frameBody, hl]
  dsimp only
  rw [if_neg hcode, State.done_eq]

theorem runResponse_unknownFunction {e : IlcEntry} (hl : s.lookup sub a = .found e) {f : FnCode}
    (hrec : ⟨e.type, f⟩ ∉ s.cfg.frame.recognised) (p : List Byte) (ts : U64) :
    runResponse f.code sub a p ts s =
      .next ((s.emit .unknownFunction e.actuatorId ts).respond .ok (.frames 0)) := by
  rw [runResponse_found hs hl, State.functionFrame, recognised_code_eq_none hrec]

theorem runResponse_invalidLength {e : IlcEntry} (hl : s.lookup sub a = .found e) {f : FnCode}
    (hrec : ⟨e.type, f⟩ ∈ s.cfg.frame.recognised) {p : List Byte}
    (hdec : decodePayload s.cfg.tables e.type f (axisOf a) p = none) (ts : U64) :
    runResponse f.code sub a p ts s =
      .next ((s.emit .invalidLength e.actuatorId ts).respond .ok (.frames 0)) := by
  rw [runResponse_found hs hl, State.functionFrame, recognised_code hrec]
  dsimp only
  rw [hdec]

end

/-- Settles O32: each warning is a lemma about `runResponse`, which all twenty-one frames run. -/
theorem frameWarnings : Obligations.FrameWarnings := by
  unfold Obligations.FrameWarnings
  intro s a p ts hs
  refine ⟨fun sub hsub => ?_, fun n => ⟨fun ht => ?_, fun ht r hr => ⟨fun hrec => ?_, fun hrec hdec => ?_⟩⟩⟩
  · have hl := lookup_unknownSubnet hsub s a
    refine ⟨fun r hr => ?_, fun f => runResponse_unknownSubnet hs hl (exceptionByte f) p ts⟩
    rw [exec_response hr, runResponse_unknownSubnet hs hl]
  · have hl := lookup_unknownAddress ht
    refine ⟨fun r hr => ?_, fun f => runResponse_unknownAddress hs hl (exceptionByte f) p ts⟩
    rw [exec_response hr, runResponse_unknownAddress hs hl]
  · rw [exec_response hr, runResponse_unknownFunction hs (lookup_number ht) hrec]
  · rw [exec_response hr, runResponse_invalidLength hs (lookup_number ht) hrec hdec]

end Sys2Proof.Machine

/-! # The frame of every instruction (spec/60_exceptions.md R393, spec/10_state.md R40)

`s.WritesOnly ps u` says that `u` holds what `s` held in every part but those of `ps`. One lemma per update of
the state says which part it writes, whatever else `ps` holds, so that an operation is the transitivity of
its updates. That `LOG` only grows is read off the register writes (`State.Writes`). -/

namespace Sys2Proof.Machine

-- One proof after another, as in Tests/Slice0.lean: in many threads at once they take too much memory.
set_option Elab.async false

/-! ## The parts of the state -/

/-- The type of what a part holds. -/
abbrev Part.Value : Part → Type
  | .cfg => Cfg × Bool
  | .ilcMap => PerSubnet (List MapCell) × Bool
  | .tx => PerSubnet TxBatch
  | .rx => PerSubnet (List Word16)
  | .rxts => PerSubnet U64
  | .afs => List ActuatorForce
  | .hps => PerHp F32
  | .expect => List I32 × PerHp I32 × PerHp I32
  | .ilcWarn => IlcWarn
  | .anyTimeout => Bool
  | .components => PerComp Component
  | .finalStage => FinalStage × Resultant
  | .momentCount => Nat
  | .err | .errPub => ErrorReg
  | .winIlc | .trig => List Bool
  | .winFe => List (List Bool)
  | .winHpf | .winHpa => PerHp (List Bool)
  | .raiseMachine => RaiseState × RaiseDir × Bool × F64 × F64 × F64 × Bool × Bool × Bool
  | .pct => F64
  | .hpc => PerHp InRangeCounter
  | .chase => Bool × Nat
  | .elev => F64 × Bool
  | .log => List Event
  | .txOut => PerSubnet (List Word16)
  | .inputs => List Input

/-- What a part holds. -/
def State.part (s : State) : (p : Part) → p.Value
  | .cfg => (s.cfg, s.cfgLoaded)
  | .ilcMap => (s.frame.ilcMap, s.mapBuilt)
  | .tx => s.frame.tx
  | .rx => s.frame.rx
  | .rxts => s.frame.rxts
  | .afs => s.frame.afs
  | .hps => s.frame.hps
  | .expect => (s.frame.expectFa, s.frame.expectHp, s.frame.expectHm)
  | .ilcWarn => s.frame.ilcWarn
  | .anyTimeout => s.frame.anyTimeout
  | .components => s.force.fc
  | .finalStage => (s.force.fin, s.force.res)
  | .momentCount => s.force.momentWarnCnt
  | .err => s.safety.err
  | .errPub => s.safety.errPub
  | .winIlc => s.safety.winIlc
  | .winFe => s.safety.winFe
  | .winHpf => s.safety.winHpf
  | .winHpa => s.safety.winHpa
  | .trig => s.safety.trig
  | .raiseMachine => (s.raise.rstate, s.raise.rdir, s.raise.timedOut, s.raise.deadline, s.raise.remain,
      s.raise.segStart, s.raise.bypass, s.raise.stalled, s.raise.waitAirLogged)
  | .pct => s.raise.pct
  | .hpc => s.raise.hpc
  | .chase => (s.raise.chase, s.raise.moveRef)
  | .elev => (s.elev, s.elevValid)
  | .log => s.log
  | .txOut => s.txOut
  | .inputs => s.inputs

/-- A part holds the same exactly if its value is the same. -/
theorem State.same_iff (s t : State) (p : Part) : s.same t p ↔ t.part p = s.part p := by
  cases p <;> simp only [State.same, State.part, RaiseUnit.sameMachine, Prod.mk.injEq]

@[simp] theorem State.respond_part (s : State) (st : Status) (d : RspData) (p : Part) :
    (s.respond st d).part p = s.part p := by cases p <;> rfl

/-- `u` holds what `s` held in every part but those of `ps`. -/
def State.WritesOnly (ps : List Part) (s u : State) : Prop := ∀ p, p ∉ ps → u.part p = s.part p

section
variable {ps : List Part} {s t u : State}

theorem State.WritesOnly.refl : s.WritesOnly ps s := fun _ _ => rfl

theorem State.WritesOnly.trans (hst : s.WritesOnly ps t) (htu : t.WritesOnly ps u) : s.WritesOnly ps u :=
  fun p hp => (htu p hp).trans (hst p hp)

/-- A fold of updates that each write only `ps`. -/
theorem foldl_writesOnly {α : Type} {f : State → α → State}
    (hf : ∀ (s : State) (a : α), s.WritesOnly ps (f s a)) (l : List α) (s : State) : s.WritesOnly ps (l.foldl f s) := by
  induction l generalizing s with
  | nil => exact .refl
  | cons a l ih => exact (hf s a).trans (ih (f s a))

/-! ## What each update writes -/

/-! ### FRAME -/

theorem State.logEvent_writesOnly (hlog : .log ∈ ps) (s : State) (e : Event) :
    s.WritesOnly ps (s.logEvent e) := fun p hp => by
  cases p with
  | log => exact absurd hlog hp
  | _ => rfl

theorem State.emit_writesOnly (hwarn : .ilcWarn ∈ ps) (hlog : .log ∈ ps) (s : State) (c : Cause) (id : I32)
    (ts : U64) : s.WritesOnly ps (s.emit c id ts) := fun p hp => by
  cases p with
  | ilcWarn => exact absurd hwarn hp
  | log => exact absurd hlog hp
  | _ => rfl

theorem State.setTx_writesOnly (htx : .tx ∈ ps) (s : State) (n : Subnet) (b : TxBatch) :
    s.WritesOnly ps (s.setTx n b) := fun p hp => by
  cases p with
  | tx => exact absurd htx hp
  | _ => rfl

theorem State.setRx_writesOnly (hrx : .rx ∈ ps) (s : State) (n : Subnet) (w : List Word16) :
    s.WritesOnly ps (s.setRx n w) := fun p hp => by
  cases p with
  | rx => exact absurd hrx hp
  | _ => rfl

theorem State.setRxts_writesOnly (hrxts : .rxts ∈ ps) (s : State) (n : Subnet) (ts : U64) :
    s.WritesOnly ps (s.setRxts n ts) := fun p hp => by
  cases p with
  | rxts => exact absurd hrxts hp
  | _ => rfl

theorem State.setAnyTimeout_writesOnly (hany : .anyTimeout ∈ ps) (s : State) (b : Bool) :
    s.WritesOnly ps (s.setAnyTimeout b) := fun p hp => by
  cases p with
  | anyTimeout => exact absurd hany hp
  | _ => rfl

theorem State.setMap_writesOnly (hmap : .ilcMap ∈ ps) (s : State) (m : PerSubnet (List MapCell)) :
    s.WritesOnly ps (s.setMap m) := fun p hp => by
  cases p with
  | ilcMap => exact absurd hmap hp
  | _ => rfl

theorem txOut_writesOnly (hout : .txOut ∈ ps) (s : State) (o : PerSubnet (List Word16)) :
    s.WritesOnly ps { s with txOut := o } := fun p hp => by
  cases p with
  | txOut => exact absurd hout hp
  | _ => rfl

theorem expects_writesOnly (hexp : .expect ∈ ps) (s : State) (fa : List I32) (h m : PerHp I32) :
    s.WritesOnly ps { s with frame := { s.frame with expectFa := fa, expectHp := h, expectHm := m } } :=
  fun p hp => by
    cases p with
    | expect => exact absurd hexp hp
    | _ => rfl

theorem updateExpect_writesOnly (hexp : .expect ∈ ps) (s : State) (t : ActType) (i : Nat) (f : I32 → I32) :
    s.WritesOnly ps { s with frame := s.frame.updateExpect t i f } := by
  obtain ⟨fa, h, m, _, heq⟩ := s.frame.updateExpect_eq t i f
  rw [heq]
  exact expects_writesOnly hexp s fa h m

theorem State.bumpExpect_writesOnly (hexp : .expect ∈ ps) (s : State) (e : IlcEntry) (d : I32) :
    s.WritesOnly ps (s.bumpExpect e d) := by
  obtain ⟨fa, h, m, _, heq⟩ := s.frame.modifyExpect_eq e.type e.dataIndex (fun v => v + d)
  rw [State.bumpExpect, heq]
  exact expects_writesOnly hexp s fa h m

/-! ### FORCE -/

theorem State.setComp_writesOnly (hcomp : .components ∈ ps) (s : State) (c : Comp) (v : Component) :
    s.WritesOnly ps (s.setComp c v) := fun p hp => by
  cases p with
  | components => exact absurd hcomp hp
  | _ => rfl

theorem State.enableComp_writesOnly (hcomp : .components ∈ ps) (s : State) (c : Comp) :
    s.WritesOnly ps (s.enableComp c) := s.setComp_writesOnly hcomp c _

theorem State.disableComp_writesOnly (hcomp : .components ∈ ps) (s : State) (c : Comp) :
    s.WritesOnly ps (s.disableComp c) := s.setComp_writesOnly hcomp c _

theorem State.enableComps_writesOnly (hcomp : .components ∈ ps) (s : State) (cs : List Comp) :
    s.WritesOnly ps (s.enableComps cs) := foldl_writesOnly (State.enableComp_writesOnly hcomp) cs s

theorem State.disableComps_writesOnly (hcomp : .components ∈ ps) (s : State) (cs : List Comp) :
    s.WritesOnly ps (s.disableComps cs) := foldl_writesOnly (State.disableComp_writesOnly hcomp) cs s

theorem State.logClip_writesOnly (hlog : .log ∈ ps) (s : State) (k : Nat) (f : Tri Bool) :
    s.WritesOnly ps (s.logClip k f) := by
  unfold State.logClip
  split
  · exact s.logEvent_writesOnly hlog _
  · exact .refl

/-! ### SAFETY -/

theorem State.notify_writesOnly (herr : .err ∈ ps) (s : State) (c : FaultCode) (b : Bool) (r : List Byte) :
    s.WritesOnly ps (s.notify c b r) := fun p hp => by
  rcases notify_cases s c b r with ⟨_, _, _, h⟩ | ⟨_, h⟩
  · rw [h]
    cases p with
    | err => exact absurd herr hp
    | _ => rfl
  · rw [h]

theorem State.pushIlc_writesOnly (hwin : .winIlc ∈ ps) (s : State) (b : Bool) :
    s.WritesOnly ps (s.pushIlc b) := fun p hp => by
  cases p with
  | winIlc => exact absurd hwin hp
  | _ => rfl

theorem State.pushFe_writesOnly (hwin : .winFe ∈ ps) (s : State) (i : Nat) (b : Bool) :
    s.WritesOnly ps (s.pushFe i b) := fun p hp => by
  cases p with
  | winFe => exact absurd hwin hp
  | _ => rfl

theorem State.pushHpf_writesOnly (hwin : .winHpf ∈ ps) (s : State) (h : Hp) (b : Bool) :
    s.WritesOnly ps (s.pushHpf h b) := fun p hp => by
  cases p with
  | winHpf => exact absurd hwin hp
  | _ => rfl

theorem State.pushHpa_writesOnly (hwin : .winHpa ∈ ps) (s : State) (h : Hp) (b : Bool) :
    s.WritesOnly ps (s.pushHpa h b) := fun p hp => by
  cases p with
  | winHpa => exact absurd hwin hp
  | _ => rfl

theorem State.clearLatch_writesOnly (herr : .err ∈ ps) (s : State) : s.WritesOnly ps s.clearLatch :=
  fun p hp => by
    cases p with
    | err => exact absurd herr hp
    | _ => rfl

theorem State.enterFault_writesOnly (s : State) : s.WritesOnly [.err, .errPub, .log] s.enterFault :=
  fun p hp => by
    cases p with
    | err | errPub | log => exact absurd (by decide) hp
    | _ => rfl

theorem State.clearFaults_writesOnly (s : State) :
    s.WritesOnly [.winIlc, .winFe, .winHpf, .winHpa, .trig, .momentCount, .err, .errPub] s.clearFaults :=
  fun p hp => by
    cases p with
    | winIlc | winFe | winHpf | winHpa | trig | momentCount | err | errPub => exact absurd (by decide) hp
    | _ => rfl

/-! ### RAISE -/

theorem RaiseUnit.sameMachine_refl (w : RaiseUnit) : w.sameMachine w :=
  ⟨rfl, rfl, rfl, rfl, rfl, rfl, rfl, rfl, rfl⟩

/-- The four parts of RAISE, each written or kept. -/
theorem State.setRaise_writesOnly {w : RaiseUnit} (hmachine : .raiseMachine ∈ ps ∨ w.sameMachine s.raise)
    (hpct : .pct ∈ ps ∨ w.pct = s.raise.pct) (hhpc : .hpc ∈ ps ∨ w.hpc = s.raise.hpc)
    (hchase : .chase ∈ ps ∨ (w.chase = s.raise.chase ∧ w.moveRef = s.raise.moveRef)) :
    s.WritesOnly ps (s.setRaise w) := fun p hp => by
  cases p with
  | raiseMachine => exact (State.same_iff s _ .raiseMachine).mp (hmachine.resolve_left hp)
  | pct => exact hpct.resolve_left hp
  | hpc => exact hhpc.resolve_left hp
  | chase => exact (State.same_iff s _ .chase).mp (hchase.resolve_left hp)
  | _ => rfl

theorem State.setPct_writesOnly (hpct : .pct ∈ ps) (s : State) (v : F64) : s.WritesOnly ps (s.setPct v) :=
  State.setRaise_writesOnly (.inr s.raise.sameMachine_refl) (.inl hpct) (.inr rfl)
    (.inr ⟨rfl, rfl⟩)

theorem State.setHpc_writesOnly (hhpc : .hpc ∈ ps) (s : State) (h : Hp) (v : InRangeCounter) :
    s.WritesOnly ps (s.setHpc h v) :=
  State.setRaise_writesOnly (.inr s.raise.sameMachine_refl) (.inr rfl) (.inl hhpc)
    (.inr ⟨rfl, rfl⟩)

end

end Sys2Proof.Machine

/-! # The frame of the composed operations (spec/60_exceptions.md R393) -/

namespace Sys2Proof.Machine

-- One proof after another, as in Tests/Slice0.lean: in many threads at once they take too much memory.
set_option Elab.async false

/-! ## Force pipeline -/

/-- `FC_UPDATE` writes its component, the event and the latch (R274). -/
theorem State.updateComp_writesOnly (s : State) (c : Comp) :
    s.WritesOnly [.components, .err, .log] (s.updateComp c) := by
  rcases updateComp_cases s c with ⟨_, h⟩ | ⟨_, _, h⟩ | ⟨_, _, h⟩
  · rw [h]
    exact .refl
  · rw [h]
    exact s.setComp_writesOnly (by decide) c _
  · rw [h, State.postUpdate]
    refine (State.WritesOnly.trans ?_ (State.logClip_writesOnly (by decide) _ _ _)).trans
      (State.notify_writesOnly (by decide) _ _ _ _)
    exact s.setComp_writesOnly (by decide) c _

theorem State.updateActive_writesOnly (s : State) (c : Comp) :
    s.WritesOnly [.components, .err, .log] (s.updateActive c) := by
  unfold State.updateActive
  split
  · exact s.updateComp_writesOnly c
  · exact .refl

/-- `PROCESS_APPLIED` writes the final stage, the warning count, the event and the latch (R280). -/
theorem State.processForces_writesOnly (s : State) :
    s.WritesOnly [.finalStage, .momentCount, .err, .log] s.processForces := fun p hp => by
  rw [processForces_eq]
  cases p with
  | finalStage | momentCount | err | log => exact absurd (by decide) hp
  | _ => rfl

/-! ## Raise and lower -/

section
variable {ps : List Part}

theorem State.holdAir_writesOnly (hmachine : .raiseMachine ∈ ps) (hlog : .log ∈ ps) (s : State) :
    s.WritesOnly ps s.holdAir := fun p hp => by
  rw [holdAir_eq]
  cases p with
  | raiseMachine => exact absurd hmachine hp
  | log => exact absurd hlog hp
  | _ => rfl

theorem State.stall_writesOnly (hmachine : .raiseMachine ∈ ps) (hlog : .log ∈ ps) (s : State) :
    s.WritesOnly ps s.stall := fun p hp => by
  rw [stall_eq]
  cases p with
  | raiseMachine => exact absurd hmachine hp
  | log => exact absurd hlog hp
  | _ => rfl

theorem State.sampleAll_writesOnly (hhpc : .hpc ∈ ps) (s : State) : s.WritesOnly ps s.sampleAll :=
  foldl_writesOnly (fun t h => t.setHpc_writesOnly hhpc h _) Hp.all s

/-- A step of the percentage: a machine flag, `PCT`, `CHASE` and the static component (R346, R369). -/
theorem State.progressUp_writesOnly (s : State) :
    s.WritesOnly [.components, .raiseMachine, .pct, .chase, .log] s.progressUp := by
  have hraise := State.setRaise_writesOnly (s := s) (ps := [.components, .raiseMachine, .pct, .chase, .log])
    (w := s.raise.progressUp (pctUp s.cfg.raise s.raise.pct)) (.inl (by decide)) (.inl (by decide)) (.inr rfl)
    (.inl (by decide))
  unfold State.progressUp
  dsimp only
  split
  · exact hraise.trans (State.enableComp_writesOnly (by decide) _ .static)
  · exact hraise

theorem State.progressDown_writesOnly (s : State) :
    s.WritesOnly [.components, .raiseMachine, .pct, .chase, .log] s.progressDown := by
  have hraise (chase : Bool) := State.setRaise_writesOnly (s := s)
    (ps := [.components, .raiseMachine, .pct, .chase, .log])
    (w := { s.raise with stalled := false, pct := pctDown s.cfg.raise s.raise.pct, chase := chase })
    (.inl (by decide)) (.inl (by decide)) (.inr rfl) (.inl (by decide))
  unfold State.progressDown
  dsimp only
  split
  · exact (hraise _).trans (State.disableComp_writesOnly (by decide) _ .static)
  · exact hraise _

theorem State.endAirWait_writesOnly (hmachine : .raiseMachine ∈ ps) (s : State) :
    s.WritesOnly ps s.endAirWait :=
  State.setRaise_writesOnly (.inl hmachine) (.inr rfl) (.inr rfl) (.inr ⟨rfl, rfl⟩)

theorem State.raiseLoop_writesOnly (s : State) (w : Bool) :
    s.WritesOnly [.components, .raiseMachine, .pct, .chase, .log] (s.raiseLoop w).1 := by
  rcases raiseLoop_cases s w with ⟨_, h⟩ | ⟨_, h⟩ | ⟨_, _, h⟩ | ⟨_, h⟩
  · rw [h]
    exact .refl
  · rw [h]
    exact s.holdAir_writesOnly (by decide) (by decide)
  · rw [h]
    exact (s.endAirWait_writesOnly (by decide)).trans (State.progressUp_writesOnly _)
  · rw [h]
    exact (s.endAirWait_writesOnly (by decide)).trans (State.stall_writesOnly (by decide) (by decide) _)

theorem State.lowerLoop_writesOnly (s : State) :
    s.WritesOnly [.components, .raiseMachine, .pct, .chase, .log] s.lowerLoop.1 := by
  rcases lowerLoop_cases s with h | ⟨_, h⟩ | h
  · rw [h]
    exact .refl
  · rw [h]
    exact s.progressDown_writesOnly
  · rw [h]
    exact s.stall_writesOnly (by decide) (by decide)

theorem State.finishComps_writesOnly (hcomp : .components ∈ ps) (s : State) :
    s.WritesOnly ps s.finishComps :=
  ((s.disableComps_writesOnly hcomp _).trans (State.enableComps_writesOnly hcomp _ _)).trans
    (State.disableComp_writesOnly hcomp _ .velocity)

theorem State.finishBalance_writesOnly (hcomp : .components ∈ ps) (hlog : .log ∈ ps) (s : State) :
    s.WritesOnly ps s.finishBalance := by
  unfold State.finishBalance
  split
  · exact s.enableComp_writesOnly hcomp .balance
  · exact s.logEvent_writesOnly hlog _

theorem State.timeOut_writesOnly (s : State) : s.WritesOnly [.raiseMachine, .err] s.timeOut := by
  refine State.WritesOnly.trans ?_ (State.notify_writesOnly (by decide) _ _ _ _)
  exact State.setRaise_writesOnly (.inl (by decide)) (.inr rfl) (.inr rfl) (.inr ⟨rfl, rfl⟩)

/-! ## Response frames -/

/-- The part a slot is a register of, where it is one, is among `ps` (R215). -/
def slotWithin (ps : List Part) : SlotWrite → Prop
  | .primary _ | .secondary _ => .afs ∈ ps
  | .hpForce _ => .hps ∈ ps
  | .other _ _ => True

theorem afs_writesOnly (hafs : .afs ∈ ps) (s : State) (u : FrameUnit) (l : List ActuatorForce) :
    State.WritesOnly ps { s with frame := u } { s with frame := { u with afs := l } } := fun p hp => by
  cases p with
  | afs => exact absurd hafs hp
  | _ => rfl

theorem hps_writesOnly (hhps : .hps ∈ ps) (s : State) (u : FrameUnit) (q : PerHp F32) :
    State.WritesOnly ps { s with frame := u } { s with frame := { u with hps := q } } := fun p hp => by
  cases p with
  | hps => exact absurd hhps hp
  | _ => rfl

theorem writeSlot_writesOnly (s : State) (u : FrameUnit) (t : ActType) (i : Nat) {w : SlotWrite}
    (hw : slotWithin ps w) :
    State.WritesOnly ps { s with frame := u } { s with frame := u.writeSlot t i w } := by
  unfold FrameUnit.writeSlot
  split
  · exact afs_writesOnly hw s u _
  · exact afs_writesOnly hw s u _
  · split
    · exact .refl
    · exact hps_writesOnly hw s u _
  · exact .refl

/-- The derived forces follow a slot that is a cylinder force (R217). -/
theorem afs_of_writesForce {t : ActType} {ws : List SlotWrite} (h : writesForce t ws = true)
    (hws : ∀ w, w ∈ ws → slotWithin ps w) : .afs ∈ ps := by
  rw [writesForce, Bool.and_eq_true] at h
  obtain ⟨w, hw, hforce⟩ := List.any_eq_true.mp h.2
  have hin := hws w hw
  cases w with
  | primary | secondary => exact hin
  | hpForce | other => cases hforce

theorem writeUpdate_writesOnly (s : State) (c : Cfg) (e : IlcEntry) {ws : List SlotWrite}
    (hws : ∀ w, w ∈ ws → slotWithin ps w) :
    s.WritesOnly ps { s with frame := s.frame.writeUpdate c e ws } := by
  unfold FrameUnit.writeUpdate
  split
  · exact .refl
  · rename_i i _
    have hslots : s.WritesOnly ps
        { s with frame := ws.foldl (fun v w => v.writeSlot e.type i w) s.frame } :=
      List.foldlRecOn (motive := fun v => s.WritesOnly ps { s with frame := v }) ws _ .refl
        fun v hv w hw => hv.trans (writeSlot_writesOnly s v e.type i (hws w hw))
    dsimp only
    split
    · rename_i hforce
      exact hslots.trans (afs_writesOnly (afs_of_writesForce hforce hws) s _ _)
    · exact hslots

/-- What every response frame may write: the counter, the warning, the log (R212). -/
structure FrameParts (ps : List Part) : Prop where
  expect : .expect ∈ ps
  ilcWarn : .ilcWarn ∈ ps
  log : .log ∈ ps

theorem State.commit_writesOnly (hps : FrameParts ps) (s : State) (sub a g : Byte) (e : IlcEntry)
    {ws : List SlotWrite} (hws : ∀ w, w ∈ ws → slotWithin ps w) (ts : U64) :
    s.WritesOnly ps (s.commit sub a g e ws ts) :=
  ((writeUpdate_writesOnly s s.cfg e hws).trans (State.bumpExpect_writesOnly hps.expect _ e _)).trans
    (State.logEvent_writesOnly hps.log _ _)

theorem State.exceptionFrame_writesOnly (hps : FrameParts ps) (s : State) (e : IlcEntry) (p : List Byte)
    (ts : U64) : s.WritesOnly ps (s.exceptionFrame e p ts) := by
  rcases exceptionFrame_cases s e p ts with ⟨c, h⟩ | ⟨c, h⟩
  · rw [h]
    exact s.emit_writesOnly hps.ilcWarn hps.log c _ ts
  · rw [h]
    exact (s.emit_writesOnly hps.ilcWarn hps.log c _ ts).trans (State.bumpExpect_writesOnly hps.expect _ e _)

theorem recognised_eq_some {c : Cfg} {t : ActType} {g : Byte} {f : FnCode} (h : recognised c t g = some f) :
    FnCode.ofByte g = some f := by
  unfold recognised at h
  split at h
  · cases h
  · rename_i f' hf'
    split at h
    · exact hf'.trans h
    · cases h

/-- A frame of function byte `g` writes the slots that the function code of `g` allows (R215). -/
theorem State.frameBody_writesOnly (hps : FrameParts ps) (s : State) (sub a g : Byte) (p : List Byte)
    (ts : U64) (hslots : g.toNat < 128 → ∀ f, FnCode.ofByte g = some f →
      ∀ w, slotAllowed f w = true → slotWithin ps w) :
    s.WritesOnly ps (s.frameBody sub a g p ts).1 := by
  rcases frameBody_cases s sub a g p ts with ⟨c, id, h⟩ | ⟨e, _, h⟩ | ⟨e, f, ws, _, hg, hrec, hdec, h⟩
  · rw [h]
    exact s.emit_writesOnly hps.ilcWarn hps.log c id ts
  · rw [h]
    exact s.exceptionFrame_writesOnly hps e p ts
  · rw [h]
    refine s.commit_writesOnly hps sub a g e (fun w hw => ?_) ts
    exact hslots hg f (recognised_eq_some hrec) w (decodePayload_slotAllowed hdec w hw)

/-! ## Parser and accounting -/

theorem State.goodFrame_writesOnly (hps : FrameParts ps) (hafs : .afs ∈ ps) (hhps : .hps ∈ ps) (s : State)
    (sub : Byte) (body : List Byte) (ts : U64) : s.WritesOnly ps (s.goodFrame sub body ts).1 := by
  have hslots (w : SlotWrite) : slotWithin ps w := by
    cases w with
    | primary | secondary => exact hafs
    | hpForce => exact hhps
    | other => trivial
  unfold State.goodFrame
  split
  · exact s.frameBody_writesOnly hps sub _ _ _ ts fun _ _ _ w _ => hslots w
  · exact s.emit_writesOnly hps.ilcWarn hps.log _ _ ts

theorem parseLoop_writesOnly (hps : FrameParts ps) (hafs : .afs ∈ ps) (hhps : .hps ∈ ps) (sub : Byte)
    (w : List Word16) (ts : U64) (fuel p : Nat) (s : State) (n : Nat) :
    s.WritesOnly ps (parseLoop sub w ts fuel p s n).1 := by
  have hemit (s : State) (c : Cause) := s.emit_writesOnly hps.ilcWarn hps.log c (-1) ts
  induction fuel generalizing p s n with
  | zero => exact .refl
  | succ fuel ih =>
    rw [parseLoop]
    split
    · exact .refl
    · dsimp only
      split
      · exact hemit s _
      · exact (hemit s _).trans (ih _ _ _)
      · exact (hemit s _).trans (ih _ _ _)
      · exact (s.goodFrame_writesOnly hps hafs hhps sub _ ts).trans (ih _ _ _)

theorem State.parseBatch_writesOnly (s : State) (sub : Byte) (n : Subnet) :
    s.WritesOnly [.rxts, .afs, .hps, .expect, .ilcWarn, .log] (s.parseBatch sub n).1 := by
  have hps : FrameParts [.rxts, .afs, .hps, .expect, .ilcWarn, .log] := ⟨by decide, by decide, by decide⟩
  unfold State.parseBatch
  dsimp only
  split
  · exact .refl
  · split
    · exact s.emit_writesOnly hps.ilcWarn hps.log _ _ _
    · exact (s.setRxts_writesOnly (by decide) n _).trans
        (parseLoop_writesOnly hps (by decide) (by decide) _ _ _ _ _ _ _)

theorem reconcileOne_writesOnly (hps : FrameParts ps) (ts : U64) (s : State) (k : ActType × Nat) :
    s.WritesOnly ps (reconcileOne ts s k) := by
  unfold reconcileOne
  split
  · exact .refl
  · exact (s.emit_writesOnly hps.ilcWarn hps.log _ _ ts).trans
      (updateExpect_writesOnly hps.expect _ k.1 k.2 _)

theorem State.reconcile_writesOnly (s : State) (ts : U64) :
    s.WritesOnly [.expect, .ilcWarn, .anyTimeout, .log] (s.reconcile ts) := by
  have hps : FrameParts [.expect, .ilcWarn, .anyTimeout, .log] := ⟨by decide, by decide, by decide⟩
  exact (foldl_writesOnly (reconcileOne_writesOnly hps ts) _ s).trans
    (State.setAnyTimeout_writesOnly (by decide) _ _)

end

end Sys2Proof.Machine

/-! # The frame of every instruction, and `LOG` (spec/60_exceptions.md R393, spec/10_state.md R40) -/

namespace Sys2Proof.Machine

-- One proof after another, as in Tests/Slice0.lean: in many threads at once they take too much memory.
set_option Elab.async false

/-! ## Settings, reset, telemetry -/

theorem State.loadCfg_writesOnly (s : State) (c : Cfg) :
    s.WritesOnly (writable (.settingsLoad c)) (s.loadCfg c) := fun p hp => by
  cases p with
  | raiseMachine | pct | chase | elev | log | txOut | inputs => rfl
  | _ => exact absurd (by simp [writable]) hp

theorem State.resetAll_writesOnly (s : State) : s.WritesOnly (writable .reset) s.resetAll := fun p hp => by
  cases p with
  | txOut | inputs => rfl
  | _ => exact absurd (by decide) hp

theorem elev_writesOnly (s : State) (v : F64) :
    s.WritesOnly [.elev] { s with elev := v, elevValid := true } := fun p hp => by
  cases p with
  | elev => exact absurd (by decide) hp
  | _ => rfl

/-! ## Response frames -/

/-- A code other than 67, 75 and 76 has no slot that is a register (R220 to R239). -/
theorem slotWithin_of_plain {ps : List Part} {f : FnCode}
    (hf : (f == .forceDemand || f == .pneumaticForceStatus) = false ∧
      (f == .electromechanicalForceAndStatus) = false) (w : SlotWrite) (hw : slotAllowed f w = true) :
    slotWithin ps w := by
  obtain ⟨hforce, hhp⟩ := hf
  cases w with
  | primary | secondary => exact absurd hw (Bool.eq_false_iff.mp hforce)
  | hpForce => exact absurd hw (Bool.eq_false_iff.mp hhp)
  | other => trivial

/-- Functions 75 and 76 write cylinder forces and no hardpoint's force (R227, R228). -/
theorem slotWithin_of_force {ps : List Part} (hafs : .afs ∈ ps) {f : FnCode}
    (hf : (f == .electromechanicalForceAndStatus) = false) (w : SlotWrite) (hw : slotAllowed f w = true) :
    slotWithin ps w := by
  cases w with
  | primary | secondary => exact hafs
  | hpForce => exact absurd hw (Bool.eq_false_iff.mp hf)
  | other => trivial

/-- Function 67 writes a hardpoint's force and no cylinder force (R224). -/
theorem slotWithin_of_hardpoint {ps : List Part} (hhps : .hps ∈ ps) {f : FnCode}
    (hf : (f == .forceDemand || f == .pneumaticForceStatus) = false) (w : SlotWrite)
    (hw : slotAllowed f w = true) : slotWithin ps w := by
  cases w with
  | primary | secondary => exact absurd hw (Bool.eq_false_iff.mp hf)
  | hpForce => exact hhps
  | other => trivial

/-- A response frame of a function code writes the slots that the code allows. -/
theorem runResponse_writesOnly {ps : List Part} (hps : FrameParts ps) (f : FnCode)
    (hslots : ∀ w, slotAllowed f w = true → slotWithin ps w) (sub a : Byte) (p : List Byte) (ts : U64)
    (s : State) : Ends s (s.WritesOnly ps) (runResponse f.code sub a p ts s) := by
  refine .gated (.done _ (s.frameBody_writesOnly hps sub a f.code p ts fun _ f' hf' w hw => ?_))
  rw [FnCode.ofByte_code] at hf'
  cases hf'
  exact hslots w hw

/-- An exception response writes no slot: its function byte is no function code (R240). -/
theorem execExceptionResponse_writesOnly {ps : List Part} (hps : FrameParts ps) (sub a : Byte) (f : BitVec 7)
    (p : List Byte) (ts : U64) (s : State) :
    Ends s (s.WritesOnly ps) (execExceptionResponse sub a f p ts s) := by
  obtain ⟨hbit, _⟩ := exceptionByte_parts f
  exact .gated (.done _ (s.frameBody_writesOnly hps sub a _ p ts fun hg => absurd hg (Nat.not_lt.mpr hbit)))

theorem frameParts_base : FrameParts [.expect, .ilcWarn, .log] := ⟨by decide, by decide, by decide⟩

theorem frameParts_afs : FrameParts [.afs, .expect, .ilcWarn, .log] := ⟨by decide, by decide, by decide⟩

theorem frameParts_hps : FrameParts [.hps, .expect, .ilcWarn, .log] := ⟨by decide, by decide, by decide⟩

/-! ## Codec, builder, transport, force components -/

theorem codecGet_writesOnly (buf : List Cell) (cur n : Nat) (mk : List Byte → CodecValue) (s : State) :
    Ends s (s.WritesOnly []) (codecGet buf cur n mk s) := by
  refine .gated ?_
  split
  · exact .done _ .refl
  · exact .refused _ (by decide)

theorem codecSet_writesOnly (buf : List Cell) (cur : Nat) (bs : List Byte) (s : State) :
    Ends s (s.WritesOnly []) (codecSet buf cur bs s) := by
  refine .gated ?_
  split
  · exact .done _ .refl
  · exact .refused _ (by decide)

theorem execGetStr_writesOnly (buf : List Cell) (cur : Nat) (s : State) :
    Ends s (s.WritesOnly []) (execGetStr buf cur s) := by
  refine .gated ?_
  split
  · exact .refused _ (by decide)
  · refine .ite (.refused _ (by decide)) ?_
    split
    · exact .refused _ (by decide)
    · exact .done _ .refl

theorem execSetStr_writesOnly (buf : List Cell) (cur : Nat) (v : List Byte) (s : State) :
    Ends s (s.WritesOnly []) (execSetStr buf cur v s) := by
  refine .gated (.ite (.refused _ (by decide)) ?_)
  split
  · exact .refused _ (by decide)
  · exact .done _ .refl

theorem execAppend_writesOnly (sub a f : Byte) (args : AppendArgs) (s : State) :
    Ends s (s.WritesOnly [.tx, .expect]) (execAppend sub a f args s) := by
  refine .gated ?_
  split
  · exact .refuse (by decide)
  · refine .ite (.refuse (by decide)) ?_
    split
    · exact .refuse (by decide)
    · exact .ite (.refuse (by decide)) (.done _ ((s.setTx_writesOnly (by decide) _ _).trans
        (State.bumpExpect_writesOnly (by decide) _ _ 1)))

theorem onComp_writesOnly {ps : List Part} (c : Byte) (s : State) {f : Comp → State}
    (hf : ∀ k, s.WritesOnly ps (f k)) : Ends s (s.WritesOnly ps) (onComp c s f) := by
  refine .gated ?_
  split
  · exact .refuse (by decide)
  · exact .done _ (hf _)

/-! ## Every instruction -/

/-- An operation that ends `OK` has written no part but those of the table `writable`. The cases are grouped
by what the instruction writes and by which tests it makes before it answers. -/
theorem exec_writesOnly (i : Instr) (s : State) : Ends s (s.WritesOnly (writable i)) (exec i s) := by
  cases i
  case getU8 | getI8 | getU16 | getI16 | getU32 | getI32 | getU64 | getI64 | getF32 | getF64 =>
    exact codecGet_writesOnly _ _ _ _ s
  case setU8 | setI8 | setU16 | setI16 | setU32 | setI32 | setU64 | setI64 | setF32 | setF64 =>
    exact codecSet_writesOnly _ _ _ s
  case getStr buf cur => exact execGetStr_writesOnly buf cur s
  case setStr buf cur v => exact execSetStr_writesOnly buf cur v s
  case crc16 | spFilled | spZeroed | faFeInTol | hpForcesInTol => exact .gated (.done _ .refl)
  case lowerCheckComplete => exact .gated (.ite (.done _ .refl) (.refuse (by decide)))
  case validateCrc =>
    refine .gated ?_
    split
    · exact .refuse (by decide)
    · exact .ite (.refuse (by decide)) (.done _ .refl)
  case hpcStatus =>
    refine .gated ?_
    split
    · exact .refuse (by decide)
    · exact .done _ .refl
  case startSubnet | endSubnet =>
    refine .gated ?_
    split
    · exact .refuse (by decide)
    · exact .ite (.refuse (by decide)) (.ite (.refuse (by decide))
        (.done _ (s.setTx_writesOnly (ps := [.tx]) (by decide) _ _)))
  case append sub a f args => exact execAppend_writesOnly sub a f args s
  case send =>
    refine .gated ?_
    split
    · exact .refuse (by decide)
    · exact .ite (.refuse (by decide)) (.done _ (txOut_writesOnly (ps := [.txOut]) (by decide) s _))
  case waitIrq =>
    refine .gated ?_
    split
    · exact .refuse (by decide)
    · have hrx := s.setRx_writesOnly (ps := [.rx]) (by decide)
      exact .ite (.ite (.refuse (by decide)) (.done _ (hrx _ _))) (.done _ (hrx _ _))
  case parse =>
    refine .gated ?_
    split
    · exact .refuse (by decide)
    · exact .done _ (s.parseBatch_writesOnly _ _)
  case reconcile ts => exact .gated (.done _ (s.reconcile_writesOnly ts))
  case mapBuild =>
    refine .ite (.refuse (by decide)) ?_
    split
    · exact .refuse (by decide)
    · exact .done _ (s.setMap_writesOnly (by decide) _)
  case settingsLoad c =>
    exact .ite (.refuse (by decide)) (.ite (.refuse (by decide)) (.done _ (s.loadCfg_writesOnly c)))
  case reset => exact .done _ s.resetAll_writesOnly
  case pullTelemetry v => exact .done _ (elev_writesOnly s v)
  case fcEnable c => exact onComp_writesOnly c s (s.enableComp_writesOnly (ps := [.components]) (by decide))
  case fcDisable c | fcZero c =>
    exact onComp_writesOnly c s (s.disableComp_writesOnly (ps := [.components]) (by decide))
  case fcApply =>
    refine .gated ?_
    split
    · exact .refuse (by decide)
    · exact .ite (.done _ (s.setComp_writesOnly (ps := [.components]) (by decide) _ _)) (.refuse (by decide))
  case fcUpdate c => exact onComp_writesOnly c s s.updateComp_writesOnly
  case updateApplied => exact .gated (.done _ (foldl_writesOnly State.updateActive_writesOnly Comp.all s))
  case processApplied => exact .gated (.ite (.done _ s.processForces_writesOnly) (.refuse (by decide)))
  case notify =>
    refine .gated ?_
    split
    · exact .refuse (by decide)
    · exact .done _ (s.notify_writesOnly (ps := [.err]) (by decide) _ _ _)
  case notifyIlcTimeout =>
    exact .gated (.done _ ((s.pushIlc_writesOnly (by decide) _).trans
      (State.notify_writesOnly (by decide) _ _ _ _)))
  case notifyFaFollowingError =>
    exact .gated (.ite (.refuse (by decide)) (.done _ ((s.pushFe_writesOnly (ps := [.winFe, .err]) (by decide)
      _ _).trans (State.notify_writesOnly (by decide) _ _ _ _))))
  case notifyHpMeasuredForce =>
    refine .gated ?_
    split
    · exact .refuse (by decide)
    · exact .done _ ((s.pushHpf_writesOnly (ps := [.winHpf, .err]) (by decide) _ _).trans
        (State.notify_writesOnly (by decide) _ _ _ _))
  case notifyHpAirPressure =>
    refine .gated ?_
    split
    · exact .refuse (by decide)
    · exact .done _ ((s.pushHpa_writesOnly (ps := [.winHpa, .err]) (by decide) _ _).trans
        (State.notify_writesOnly (by decide) _ _ _ _))
  case checkSafety => exact .gated (.ite (.done _ .refl) (.done _ s.enterFault_writesOnly))
  case clearError => exact .gated (.done _ (s.clearLatch_writesOnly (by decide)))
  case clearErrorCode => exact .gated (.done _ s.clearFaults_writesOnly)
  case raiseStart =>
    refine .gated (.ite (.refuse (by decide)) (.ite (.refuse (by decide)) (.done _ ?_)))
    change s.WritesOnly [.components, .raiseMachine, .pct, .hpc, .chase] _
    exact ((s.disableComps_writesOnly (by decide) transferComps).trans
      (State.enableComp_writesOnly (by decide) _ .elevation)).trans
      (State.setRaise_writesOnly (.inl (by decide)) (.inl (by decide)) (.inl (by decide)) (.inl (by decide)))
  case lowerStart =>
    refine .gated (.ite (.refuse (by decide)) (.ite (.refuse (by decide)) (.done _ ?_)))
    change s.WritesOnly [.components, .raiseMachine, .hpc, .chase] _
    refine (s.disableComps_writesOnly (by decide) transferComps).trans
      (State.setRaise_writesOnly (.inl (by decide)) (.inr ?_) (.inl (by decide)) (.inl (by decide)))
    rw [State.disableComps_raise]
    rfl
  case raiseRunloop w => exact .gated (.ite (.done _ (s.raiseLoop_writesOnly w)) (.refuse (by decide)))
  case lowerRunloop => exact .gated (.ite (.done _ s.lowerLoop_writesOnly) (.refuse (by decide)))
  case raiseCheckComplete =>
    exact .gated (.ite (.ite (.done _ (s.sampleAll_writesOnly (ps := [.hpc]) (by decide))) (.done _ .refl))
      (.refuse (by decide)))
  case raiseComplete =>
    refine .gated (.ite (.done _ ?_) (.refuse (by decide)))
    have hraise : s.finishComps.finishBalance.raise = s.raise := State.finishBalance_raise _
    refine ((s.finishComps_writesOnly (by decide)).trans
      (State.finishBalance_writesOnly (by decide) (by decide) _)).trans
      (State.setRaise_writesOnly (.inl (by decide)) (.inl (by decide)) (.inr ?_) (.inr ?_))
    · rw [hraise]
    · rw [hraise]
      exact ⟨rfl, rfl⟩
  case lowerComplete =>
    refine .gated (.ite (.done _ ?_) (.refuse (by decide)))
    refine (s.disableComps_writesOnly (by decide) Comp.all).trans
      (State.setRaise_writesOnly (.inl (by decide)) (.inl (by decide)) (.inr ?_) (.inl (by decide)))
    rw [State.disableComps_raise]
  case checkTimeout =>
    refine .gated (.done _ ?_)
    split
    · exact s.timeOut_writesOnly
    · exact .refl
  case timeout => exact .gated (.ite (.done _ s.timeOut_writesOnly) (.refuse (by decide)))
  case pause | resume =>
    exact .gated (.ite (.done _ (State.setRaise_writesOnly (ps := [.raiseMachine]) (.inl (by decide)) (.inr rfl)
      (.inr rfl) (.inr ⟨rfl, rfl⟩))) (.refuse (by decide)))
  case rlReset =>
    exact .gated (.done _ (State.setRaise_writesOnly (.inl (by decide)) (.inr rfl) (.inl (by decide))
      (.inr ⟨rfl, rfl⟩)))
  case spInc | spDec | spZero | spFill => exact .gated (.done _ (s.setPct_writesOnly (by decide) _))
  case hpcSample | hpcReset =>
    refine .gated ?_
    split
    · exact .refuse (by decide)
    · exact .done _ (s.setHpc_writesOnly (ps := [.hpc]) (by decide) _ _)
  case exceptionResponse => exact execExceptionResponse_writesOnly frameParts_base _ _ _ _ _ s
  case electromechanicalForceAndStatus =>
    exact runResponse_writesOnly frameParts_hps _ (slotWithin_of_hardpoint (by decide) rfl) _ _ _ _ s
  case forceDemand | pneumaticForceStatus =>
    exact runResponse_writesOnly frameParts_afs _ (slotWithin_of_force (by decide) rfl) _ _ _ _ s
  all_goals exact runResponse_writesOnly frameParts_base _ (slotWithin_of_plain ⟨rfl, rfl⟩) _ _ _ _ s

/-! ## `LOG` only grows (R40) -/

theorem RegWrite.log_prefix {s u : State} (h : RegWrite s u) : s.log <+: u.log := by
  cases h with
  | log e => exact List.prefix_append s.log [e]
  | warn c id ts => exact List.prefix_append s.log _
  | enterFault => exact List.prefix_append s.log _
  | latch _ b r => rw [State.notify_log]
  | _ => exact List.prefix_refl s.log

theorem State.Writes.log_prefix {s u : State} (h : s.Writes u) : s.log <+: u.log := by
  induction h with
  | refl => exact List.prefix_refl s.log
  | tail _ hw ih => exact ih.trans hw.log_prefix

/-- `SETTINGS_LOAD`, `MAP_BUILD` and `PULL_TELEMETRY` do not write `LOG`. -/
theorem log_not_writable {i : Instr} (hi : ungated i = true) (hreset : i ≠ .reset) :
    .log ∉ writable i := by
  cases i
  case reset => exact absurd rfl hreset
  case settingsLoad | mapBuild | pullTelemetry => simp [writable]
  all_goals cases hi

theorem exec_log_prefix (i : Instr) (s : State) (hi : i ≠ .reset) :
    Ends s (fun u => s.log <+: u.log) (exec i s) := by
  cases hu : ungated i with
  | false => exact (exec_writes_of_gated i s hu).mono fun _ => State.Writes.log_prefix
  | true =>
    refine (exec_writesOnly i s).mono fun u h => ?_
    have hlog : u.log = s.log := h .log (log_not_writable hu hi)
    rw [hlog]

/-- Settles O7: the parts written are `exec_writesOnly`, the growth of `LOG` is `exec_log_prefix`. -/
theorem frameOfEveryInstruction : Obligations.FrameOfEveryInstruction := by
  unfold Obligations.FrameOfEveryInstruction
  intro i s t hexec
  constructor
  · intro p hp
    have hends : Ends s (s.WritesOnly (writable i)) (.next t) := hexec ▸ exec_writesOnly i s
    have hwrites := hends.next_of .refl fun u st d hu q hq => (u.respond_part st d q).trans (hu q hq)
    exact (State.same_iff s t p).mpr (hwrites p hp)
  · intro hi
    have hends : Ends s (fun u => s.log <+: u.log) (.next t) := hexec ▸ exec_log_prefix i s hi
    obtain ⟨es, hes⟩ := hends.next_of (List.prefix_refl s.log) fun _ _ _ hu => hu
    exact ⟨es, hes.symm⟩

end Sys2Proof.Machine

/-! # A step on an input that is no instruction (spec/70_reset_and_hazards.md R421, spec/60_exceptions.md R391,
spec/30_encoding.md R130)

The two pins decode to nothing and are rejected at once. A frame with a function byte outside the catalogue
decodes to nothing either, and runs the iteration of `PARSE` (R212) as the frames of the catalogue do. -/

namespace Sys2Proof.Machine

section
variable {s : State} {rest : List Input}

/-- An input that decodes to no instruction is taken off the queue and rejected by name. -/
theorem step_of_rejected {x : Input} {e : DecodeError} (hin : s.inputs = x :: rest)
    (hdec : decodeInput x = .error e) : step s = rejectInput e x { s with inputs := rest } := by
  rw [step_of_cons hin, runInput_of_error hdec]

/-- The reset pin has the effect of `RESET` on the registers, and no response (R421). -/
theorem step_rstN (hin : s.inputs = .rstN :: rest) :
    step s = .next (State.resetAll { s with inputs := rest }) :=
  step_of_rejected (e := .pinEvent) hin rfl

/-- A pulse that no `WAIT_IRQ` waits for is lost (R391). -/
theorem step_irq {n : Subnet} (hin : s.inputs = .irq n :: rest) : step s = .next { s with inputs := rest } :=
  step_of_rejected (e := .pinEvent) hin rfl

end

theorem decodeInput_unknownFunction {g : Byte} (hbit : g.toNat < 128) (hg : FnCode.ofByte g = none)
    (sub a : Byte) (p : List Byte) (ts : U64) :
    decodeInput (.response sub ts (a :: g :: p)) = .error (.unknownFunction g) := by
  simp only [decodeInput, decodeResponse, if_neg (Nat.not_le.mpr hbit), hg]

/-- A rejected frame that has an address and a function byte runs as the wire's instructions do. -/
theorem rejectInput_response (e : DecodeError) (sub a g : Byte) (p : List Byte) (ts : U64) (s : State) :
    rejectInput e (.response sub ts (a :: g :: p)) s = runResponse g sub a p ts s := rfl

/-- No type recognises a function byte outside the catalogue (R130). -/
theorem recognised_eq_none_of_ofByte {g : Byte} (hg : FnCode.ofByte g = none) (c : Cfg) (t : ActType) :
    recognised c t g = none := by
  rw [recognised, hg]

theorem frameBody_unknownByte {s : State} {sub a g : Byte} {e : IlcEntry} (hl : s.lookup sub a = .found e)
    (hbit : g.toNat < 128) (hg : FnCode.ofByte g = none) (p : List Byte) (ts : U64) :
    s.frameBody sub a g p ts = (s.emit .unknownFunction e.actuatorId ts, 0) := by
  simp only [State.frameBody, hl, if_neg (Nat.not_le.mpr hbit), State.functionFrame,
    recognised_eq_none_of_ofByte hg]

theorem runResponse_unknownByte {s : State} (hs : s.ready = true) {sub a g : Byte} {e : IlcEntry}
    (hl : s.lookup sub a = .found e) (hbit : g.toNat < 128) (hg : FnCode.ofByte g = none) (p : List Byte)
    (ts : U64) : runResponse g sub a p ts s =
      .next ((s.emit .unknownFunction e.actuatorId ts).respond .ok (.frames 0)) := by
  rw [runResponse, whenReady_ready hs, frameBody_unknownByte hl hbit hg, State.done_eq]

/-- Settles O3: the two pins by `step_rstN` and `step_irq`, the frame by `runResponse_unknownByte` on the
state whose queue has advanced. -/
theorem stepOnOtherInputs : Obligations.StepOnOtherInputs := by
  unfold Obligations.StepOnOtherInputs
  refine ⟨fun s rest hin => step_rstN hin, fun s n rest hin => step_irq hin, ?_⟩
  intro s rest n a g p ts hin hs hbit hg ht
  have hdec := decodeInput_unknownFunction hbit hg n.number a p ts
  rw [step_of_rejected hin hdec, rejectInput_response]
  exact runResponse_unknownByte (s := { s with inputs := rest }) hs (lookup_number ht) hbit hg p ts

end Sys2Proof.Machine
